-- ==== Sys2Proof/Word.lean ====
section
/-! DEFINITION. The widths the spec fixes: bytes, 32-bit register values, 64-bit general registers. -/

namespace Sys2Proof

/-- One byte of memory or of a string. -/
abbrev Byte := BitVec 8

/-- A CPUID register, a function number, a subleaf number, the 32-bit view of a general register (R9, R21, R24). -/
abbrev Word := BitVec 32

/-- A general register at full width, the instruction pointer at full width, rFLAGS (R21, R22, R23, D3). -/
abbrev QWord := BitVec 64

end Sys2Proof
end

