-- ==== Sys2Proof/Machine/Fields.lean ====
section
/-! DEFINITION. Fields of a register and how a value is put together from them (R10, R13, R105). -/

namespace Sys2Proof.Machine

/-- The access types the source prints (R13, R106). None of them is a write access. -/
inductive Access where
  | readOnly
  | readOnlyVolatile
  | nonePrinted
deriving DecidableEq, Repr

/-- Where a field's value comes from (R13, R105, R108). -/
inductive FieldSource where
  /-- "Reserved." with no printed value: 0 (D6) -/
  | reserved
  /-- a printed constant with the word "Fixed," -/
  | fixed
  /-- a printed constant without "Fixed,": treated as a constant (D12) -/
  | plain
  /-- printed with `X`, or an expression over a parameter: a value of the configuration (R8) -/
  | parameter
  /-- an expression over inputs, read at execution time (R108) -/
  | input
deriving DecidableEq, Repr

/-- One field `hi:lo` of a register, with the value it contributes, zero-extended. -/
structure Field where
  hi : Nat
  lo : Nat
  name : String
  access : Access
  source : FieldSource
  value : Word
deriving DecidableEq, Repr

/-- `zext_32` (R11). -/
def zext {n : Nat} (x : BitVec n) : Word := x.setWidth 32

/-- `zext_32` of one bit (R11). -/
def bit (b : Bool) : Word := if b then 1#32 else 0#32

/-- A field printed "Reserved." and no more (D6). -/
def reservedField (hi lo : Nat) : Field := ⟨hi, lo, "Reserved", .nonePrinted, .reserved, 0#32⟩

/-- A field printed "Fixed," with a constant. -/
def fixedField (hi lo : Nat) (name : String) (v : Word) : Field := ⟨hi, lo, name, .readOnly, .fixed, v⟩

/-- A field printed with a constant and without "Fixed," (D12). -/
def plainField (hi lo : Nat) (name : String) (v : Word) : Field := ⟨hi, lo, name, .readOnly, .plain, v⟩

/-- A field that holds a parameter, or an expression over one. -/
def paramField (hi lo : Nat) (name : String) (v : Word) : Field := ⟨hi, lo, name, .readOnly, .parameter, v⟩

/-- A field that follows an input. -/
def inputField (hi lo : Nat) (name : String) (v : Word) : Field := ⟨hi, lo, name, .readOnly, .input, v⟩

/-- A field that follows an input and is printed "Volatile" (R31). -/
def volatileField (hi lo : Nat) (name : String) (v : Word) : Field := ⟨hi, lo, name, .readOnlyVolatile, .input, v⟩

/-- The value of a register: "the bitwise OR of its fields, each shifted to its position" (R105). -/
def compose : List Field → Word
  | [] => 0#32
  | f :: fs => (f.value <<< f.lo) ||| compose fs

/-- The mask of a field of `n` bits in its low position. -/
def lowMask (n : Nat) : Word := BitVec.ofNat 32 (2 ^ n - 1)

/-- `value[hi:lo]`, zero-extended (R10). -/
def slice (w : Word) (hi lo : Nat) : Word := (w >>> lo) &&& lowMask (hi + 1 - lo)

/-- The value of a register that an override MSR may replace whole (R109). See notes/assumptions/14.md. -/
def overridden (ov : Option Word) (v : Word) : Word := ov.getD v

/-- The fields, read in the source's order, cover bits `top`:0 with no gap and no overlap (R105). -/
def coversFrom : Nat → List Field → Bool
  | _, [] => false
  | top, [f] => f.hi == top && f.lo == 0
  | top, f :: fs => f.hi == top && decide (0 < f.lo) && decide (f.lo ≤ f.hi) && coversFrom (f.lo - 1) fs

end Sys2Proof.Machine
end

