-- ==== Sys2Proof/Config.lean ====
section
/-! DEFINITION. What one product fixes: the names of threads and registers, the configuration `P` (R8, R20, R22, R25),
and the one free value of the spec, `Unlisted` (R104). -/

namespace Sys2Proof

/-- The four general registers the spec names, by their 32-bit names (R21). -/
inductive Gpr where
  | eax
  | ebx
  | ecx
  | edx
deriving DecidableEq, Repr

/-- A thread `t = (l, c, h)`: L3 complex `l`, core `c` in the complex, thread `h` in the core (R12, R20). -/
structure ThreadId where
  l : Fin 2
  c : Fin 4
  h : Fin 2
deriving DecidableEq, Repr

/-- The width of the instruction pointer, `P.PcWidth` (R22). -/
inductive PcWidth where
  | w32
  | w64
deriving DecidableEq, Repr

/-- The parameters marked (t) in R8, and the thread's membership of `P.Threads` (R20). -/
structure ThreadParams where
  /-- the thread belongs to `P.Threads` -/
  present : Bool
  localApicId : BitVec 8
  coreId : BitVec 8
  nodeId : BitVec 8
  numSharingCacheIC : BitVec 12
  numSharingCacheL2 : BitVec 12
  numSharingCacheL3 : BitVec 12
deriving DecidableEq, Repr

/-- The product configuration `P` (R8, R25): every parameter at the width of the field it fills. Which values are legal is
`Params.wellFormed`. -/
structure Params where
  baseModel : BitVec 4
  aes : Bool
  pclmulqdq : Bool
  xFeatureSupportedSizeMax : BitVec 32
  pkgType : BitVec 4
  l2DTlb2and4MAssoc : BitVec 4
  l2DTlb4KAssoc : BitVec 4
  l3Size : BitVec 14
  l3Assoc : BitVec 4
  succor : Bool
  apicIdSize : BitVec 4
  nc : BitVec 8
  l3NumSets : BitVec 32
  threadsPerCore : BitVec 8
  nodesPerProcessor : BitVec 3
  minimumSevAsid : BitVec 32
  /-- one entry a thread, at `ThreadId.index` -/
  thread : Vector ThreadParams 16
  /-- `P.NumSharingCache_DC(c)`, one entry a core, at `ThreadId.coreIndex` -/
  numSharingCacheDC : Vector (BitVec 12) 8
  pcWidth : PcWidth
deriving DecidableEq, Repr

/-- The functions `Unlisted` of R104 and D7: for a key `k`, `Config.unlisted k` takes the thread, the function, the subleaf and
the register, and gives the value CPUID returns for a selector the source does not list. A free value: no body, so nothing
can be proved of it, nor of how the functions of two keys differ. See notes/assumptions/3.md. -/
opaque Config.unlisted : Nat → ThreadId → Word → Word → Gpr → Word

/-- The key of the function `Unlisted` that holds after an execution that met one (R104: "not that it is the same at two
executions"). No body either: it may be the same key for ever. It counts nothing (R351). See notes/assumptions/3.md. -/
opaque Config.nextUnlisted : Nat → Nat

end Sys2Proof
end

