-- ==== Sys2Proof/Syntax.lean ====
section
/-! DEFINITION. The rows of the opcode table: the one instruction, and the 105 registers that its selector space names
(R80, R82, R90). No row has an operand (R81). -/

namespace Sys2Proof

/-- One constructor per row of the opcode table, in its order. `cpuid` is the instruction (R80, R100); `fn<F>_<R>[_x<S>]` is
the register row `CPUID_Fn<F>_<R>[_x<S>]`: what `CPUID` writes to register R when EAX_in is F (and ECX_in is S) (R82, R90). -/
inductive Instr where
  | cpuid
  | fn00000000_EAX
  | fn00000000_EBX
  | fn00000000_ECX
  | fn00000000_EDX
  | fn00000001_EAX
  | fn00000001_EBX
  | fn00000001_ECX
  | fn00000001_EDX
  | fn00000005_EAX
  | fn00000005_EBX
  | fn00000005_ECX
  | fn00000005_EDX
  | fn00000006_EAX
  | fn00000006_EBX
  | fn00000006_ECX
  | fn00000006_EDX
  | fn00000007_EAX_x00
  | fn00000007_EBX_x00
  | fn00000007_ECX_x00
  | fn00000007_EDX_x00
  | fn0000000B_EAX
  | fn0000000B_EBX
  | fn0000000B_ECX
  | fn0000000B_EDX
  | fn0000000D_EAX_x00
  | fn0000000D_EBX_x00
  | fn0000000D_ECX_x00
  | fn0000000D_EDX_x00
  | fn0000000D_EAX_x01
  | fn0000000D_EBX_x01
  | fn0000000D_ECX_x01
  | fn0000000D_EDX_x01
  | fn0000000D_EAX_x02
  | fn0000000D_EBX_x02
  | fn0000000D_ECX_x02
  | fn0000000D_EDX_x02
  | fn80000000_EAX
  | fn80000000_EBX
  | fn80000000_ECX
  | fn80000000_EDX
  | fn80000001_EAX
  | fn80000001_EBX
  | fn80000001_ECX
  | fn80000001_EDX
  | fn80000002_EAX
  | fn80000002_EBX
  | fn80000002_ECX
  | fn80000002_EDX
  | fn80000003_EAX
  | fn80000003_EBX
  | fn80000003_ECX
  | fn80000003_EDX
  | fn80000004_EAX
  | fn80000004_EBX
  | fn80000004_ECX
  | fn80000004_EDX
  | fn80000005_EAX
  | fn80000005_EBX
  | fn80000005_ECX
  | fn80000005_EDX
  | fn80000006_EAX
  | fn80000006_EBX
  | fn80000006_ECX
  | fn80000006_EDX
  | fn80000007_EAX
  | fn80000007_EBX
  | fn80000007_ECX
  | fn80000007_EDX
  | fn80000008_EAX
  | fn80000008_EBX
  | fn80000008_ECX
  | fn8000000A_EAX
  | fn8000000A_EBX
  | fn8000000A_EDX
  | fn80000019_EAX
  | fn80000019_EBX
  | fn8000001A_EAX
  | fn8000001B_EAX
  | fn8000001D_EAX_x00
  | fn8000001D_EAX_x01
  | fn8000001D_EAX_x02
  | fn8000001D_EAX_x03
  | fn8000001D_EAX_x04
  | fn8000001D_EBX_x00
  | fn8000001D_EBX_x01
  | fn8000001D_EBX_x02
  | fn8000001D_EBX_x03
  | fn8000001D_EBX_x04
  | fn8000001D_ECX_x00
  | fn8000001D_ECX_x01
  | fn8000001D_ECX_x02
  | fn8000001D_ECX_x03
  | fn8000001D_ECX_x04
  | fn8000001D_EDX_x00
  | fn8000001D_EDX_x01
  | fn8000001D_EDX_x02
  | fn8000001D_EDX_x03
  | fn8000001D_EDX_x04
  | fn8000001E_EAX
  | fn8000001E_EBX
  | fn8000001E_ECX
  | fn8000001F_EAX
  | fn8000001F_EBX
  | fn8000001F_ECX
  | fn8000001F_EDX
deriving DecidableEq, Repr

/-- The selector of a register: the triple (F, S or none, R) of its name (R82). -/
structure Selector where
  fn : Word
  sub : Option Word
  out : Gpr
deriving DecidableEq, Repr

/-- A point of the selector space (R30). -/
structure Point where
  fn : Word
  sub : Word
  out : Gpr
deriving DecidableEq, Repr

/-- A row of the leaf table of R101: the four outputs of one leaf, `none` where the column says "unlisted". -/
structure Leaf where
  fn : Word
  sub : Option Word
  eax : Option Instr
  ebx : Option Instr
  ecx : Option Instr
  edx : Option Instr
deriving DecidableEq, Repr

/-- The two layers of encoding (30_encoding.md): bytes of an instruction, lowest address first, or a point of the selector
space. -/
inductive Code where
  | bytes (b : List Byte)
  | point (p : Point)
deriving DecidableEq, Repr

/-- Why bytes are no instruction of the spec (R86, R87). -/
inductive DecodeReject where
  /-- there is no byte -/
  | empty
  /-- 0Fh and nothing after it -/
  | truncated
  /-- a prefix byte -/
  | prefixed (b : Byte)
  /-- any other bytes -/
  | notCpuid (b0 : Byte) (b1 : Option Byte)
deriving DecidableEq, Repr

end Sys2Proof
end

