-- ==== Sys2Proof/WellFormed.lean ====
section
/-! DEFINITION. What must hold before a run: the product configuration is one the spec describes (R8, D21, D24). An
instruction has no operand (R81), so every term of `Instr` is well formed. -/

namespace Sys2Proof

/-- No instruction of the spec carries an operand or an immediate (R81), so no term of `Instr` is ill formed. -/
def Instr.wellFormed : Instr → Bool := fun _ => true

/-- `P.NC` at most FEh (R8, D21). -/
def Params.ncOk (p : Params) : Bool := p.nc != 0xFF#8

/-- `P.PkgType` = 2h; all other codes "Reserved." (R207). -/
def Params.pkgTypeOk (p : Params) : Bool := p.pkgType == 0x2#4

/-- `P.XFeatureSupportedSizeMax` is 0000_0240h or 0000_0340h (R163). -/
def Params.xFeatureSizeOk (p : Params) : Bool :=
  p.xFeatureSupportedSizeMax == 0x240#32 || p.xFeatureSupportedSizeMax == 0x340#32

/-- `P.L2DTlb2and4MAssoc` is 2h or 3h (R246). -/
def Params.l2DTlb2and4MAssocOk (p : Params) : Bool := p.l2DTlb2and4MAssoc == 0x2#4 || p.l2DTlb2and4MAssoc == 0x3#4

/-- `P.L2DTlb4KAssoc` is 5h or 6h (R247). -/
def Params.l2DTlb4KAssocOk (p : Params) : Bool := p.l2DTlb4KAssoc == 0x5#4 || p.l2DTlb4KAssoc == 0x6#4

/-- `P.L3Assoc` is 8h, Ah, Bh, Ch, Dh or Eh (R249). -/
def Params.l3AssocOk (p : Params) : Bool :=
  p.l3Assoc == 0x8#4 || p.l3Assoc == 0xA#4 || p.l3Assoc == 0xB#4 || p.l3Assoc == 0xC#4 || p.l3Assoc == 0xD#4 ||
    p.l3Assoc == 0xE#4

/-- `P.L3NumSets` is 0000_0FFFh or 0000_1FFFh (R305). -/
def Params.l3NumSetsOk (p : Params) : Bool := p.l3NumSets == 0xFFF#32 || p.l3NumSets == 0x1FFF#32

/-- `P.NodesPerProcessor` is 0h, 1h or 3h (R315). -/
def Params.nodesOk (p : Params) : Bool :=
  p.nodesPerProcessor == 0#3 || p.nodesPerProcessor == 1#3 || p.nodesPerProcessor == 3#3

/-- `P.MinimumSEVASID` is at most Fh, the bound of its printed pattern 0000_000Xh (R8, R320). -/
def Params.minimumSevAsidOk (p : Params) : Bool := p.minimumSevAsid.toNat ≤ 0xF

/-- `P.Threads` is not empty (R20). -/
def Params.threadsOk (p : Params) : Bool := p.thread.toList.any (·.present)

/-- A configuration the spec describes: every parameter with a non-reserved value (R8), `P.NC` at most FEh (D21), at least
one thread (R20). Any other is refused (D24). -/
def Params.wellFormed (p : Params) : Bool :=
  p.ncOk && p.pkgTypeOk && p.xFeatureSizeOk && p.l2DTlb2and4MAssocOk && p.l2DTlb4KAssocOk && p.l3AssocOk &&
    p.l3NumSetsOk && p.nodesOk && p.minimumSevAsidOk && p.threadsOk

end Sys2Proof
end

