-- ==== Sys2Proof/Decode.lean ====
section
/-! DEFINITION. Decoding and encoding, both layers: the two bytes of `CPUID` (R80, R86, R87), and the selector space
(R82, R90, R101). -/

namespace Sys2Proof

/-- The prefix bytes R87 names: operand size, address size, segment overrides, REP, LOCK, REX. -/
def isPrefixByte (b : Byte) : Bool :=
  b == 0x66#8 || b == 0x67#8 || b == 0x26#8 || b == 0x2E#8 || b == 0x36#8 || b == 0x3E#8 || b == 0x64#8 || b == 0x65#8 ||
    b == 0xF2#8 || b == 0xF3#8 || b == 0xF0#8 || (b &&& 0xF0#8) == 0x40#8

/-- Decode the bytes at pc: the instruction and the bytes after it, or why there is none. 0Fh A2h is `CPUID`, length 2 (R80);
everything else is rejected by name (R86, R87). -/
def decode : List Byte → Except DecodeReject (Instr × List Byte)
  | [] => .error .empty
  | [b0] =>
    if b0 = 0x0F#8 then .error .truncated
    else if isPrefixByte b0 then .error (.prefixed b0) else .error (.notCpuid b0 none)
  | b0 :: b1 :: rest =>
    if b0 = 0x0F#8 ∧ b1 = 0xA2#8 then .ok (.cpuid, rest)
    else if isPrefixByte b0 then .error (.prefixed b0) else .error (.notCpuid b0 (some b1))

/-- The selector of a register row, from its name (R82); `CPUID` itself has none. -/
def Instr.selector : Instr → Option Selector
  | .cpuid => none
  | .fn00000000_EAX => some ⟨0x00000000#32, none, .eax⟩
  | .fn00000000_EBX => some ⟨0x00000000#32, none, .ebx⟩
  | .fn00000000_ECX => some ⟨0x00000000#32, none, .ecx⟩
  | .fn00000000_EDX => some ⟨0x00000000#32, none, .edx⟩
  | .fn00000001_EAX => some ⟨0x00000001#32, none, .eax⟩
  | .fn00000001_EBX => some ⟨0x00000001#32, none, .ebx⟩
  | .fn00000001_ECX => some ⟨0x00000001#32, none, .ecx⟩
  | .fn00000001_EDX => some ⟨0x00000001#32, none, .edx⟩
  | .fn00000005_EAX => some ⟨0x00000005#32, none, .eax⟩
  | .fn00000005_EBX => some ⟨0x00000005#32, none, .ebx⟩
  | .fn00000005_ECX => some ⟨0x00000005#32, none, .ecx⟩
  | .fn00000005_EDX => some ⟨0x00000005#32, none, .edx⟩
  | .fn00000006_EAX => some ⟨0x00000006#32, none, .eax⟩
  | .fn00000006_EBX => some ⟨0x00000006#32, none, .ebx⟩
  | .fn00000006_ECX => some ⟨0x00000006#32, none, .ecx⟩
  | .fn00000006_EDX => some ⟨0x00000006#32, none, .edx⟩
  | .fn00000007_EAX_x00 => some ⟨0x00000007#32, some 0x00000000#32, .eax⟩
  | .fn00000007_EBX_x00 => some ⟨0x00000007#32, some 0x00000000#32, .ebx⟩
  | .fn00000007_ECX_x00 => some ⟨0x00000007#32, some 0x00000000#32, .ecx⟩
  | .fn00000007_EDX_x00 => some ⟨0x00000007#32, some 0x00000000#32, .edx⟩
  | .fn0000000B_EAX => some ⟨0x0000000B#32, none, .eax⟩
  | .fn0000000B_EBX => some ⟨0x0000000B#32, none, .ebx⟩
  | .fn0000000B_ECX => some ⟨0x0000000B#32, none, .ecx⟩
  | .fn0000000B_EDX => some ⟨0x0000000B#32, none, .edx⟩
  | .fn0000000D_EAX_x00 => some ⟨0x0000000D#32, some 0x00000000#32, .eax⟩
  | .fn0000000D_EBX_x00 => some ⟨0x0000000D#32, some 0x00000000#32, .ebx⟩
  | .fn0000000D_ECX_x00 => some ⟨0x0000000D#32, some 0x00000000#32, .ecx⟩
  | .fn0000000D_EDX_x00 => some ⟨0x0000000D#32, some 0x00000000#32, .edx⟩
  | .fn0000000D_EAX_x01 => some ⟨0x0000000D#32, some 0x00000001#32, .eax⟩
  | .fn0000000D_EBX_x01 => some ⟨0x0000000D#32, some 0x00000001#32, .ebx⟩
  | .fn0000000D_ECX_x01 => some ⟨0x0000000D#32, some 0x00000001#32, .ecx⟩
  | .fn0000000D_EDX_x01 => some ⟨0x0000000D#32, some 0x00000001#32, .edx⟩
  | .fn0000000D_EAX_x02 => some ⟨0x0000000D#32, some 0x00000002#32, .eax⟩
  | .fn0000000D_EBX_x02 => some ⟨0x0000000D#32, some 0x00000002#32, .ebx⟩
  | .fn0000000D_ECX_x02 => some ⟨0x0000000D#32, some 0x00000002#32, .ecx⟩
  | .fn0000000D_EDX_x02 => some ⟨0x0000000D#32, some 0x00000002#32, .edx⟩
  | .fn80000000_EAX => some ⟨0x80000000#32, none, .eax⟩
  | .fn80000000_EBX => some ⟨0x80000000#32, none, .ebx⟩
  | .fn80000000_ECX => some ⟨0x80000000#32, none, .ecx⟩
  | .fn80000000_EDX => some ⟨0x80000000#32, none, .edx⟩
  | .fn80000001_EAX => some ⟨0x80000001#32, none, .eax⟩
  | .fn80000001_EBX => some ⟨0x80000001#32, none, .ebx⟩
  | .fn80000001_ECX => some ⟨0x80000001#32, none, .ecx⟩
  | .fn80000001_EDX => some ⟨0x80000001#32, none, .edx⟩
  | .fn80000002_EAX => some ⟨0x80000002#32, none, .eax⟩
  | .fn80000002_EBX => some ⟨0x80000002#32, none, .ebx⟩
  | .fn80000002_ECX => some ⟨0x80000002#32, none, .ecx⟩
  | .fn80000002_EDX => some ⟨0x80000002#32, none, .edx⟩
  | .fn80000003_EAX => some ⟨0x80000003#32, none, .eax⟩
  | .fn80000003_EBX => some ⟨0x80000003#32, none, .ebx⟩
  | .fn80000003_ECX => some ⟨0x80000003#32, none, .ecx⟩
  | .fn80000003_EDX => some ⟨0x80000003#32, none, .edx⟩
  | .fn80000004_EAX => some ⟨0x80000004#32, none, .eax⟩
  | .fn80000004_EBX => some ⟨0x80000004#32, none, .ebx⟩
  | .fn80000004_ECX => some ⟨0x80000004#32, none, .ecx⟩
  | .fn80000004_EDX => some ⟨0x80000004#32, none, .edx⟩
  | .fn80000005_EAX => some ⟨0x80000005#32, none, .eax⟩
  | .fn80000005_EBX => some ⟨0x80000005#32, none, .ebx⟩
  | .fn80000005_ECX => some ⟨0x80000005#32, none, .ecx⟩
  | .fn80000005_EDX => some ⟨0x80000005#32, none, .edx⟩
  | .fn80000006_EAX => some ⟨0x80000006#32, none, .eax⟩
  | .fn80000006_EBX => some ⟨0x80000006#32, none, .ebx⟩
  | .fn80000006_ECX => some ⟨0x80000006#32, none, .ecx⟩
  | .fn80000006_EDX => some ⟨0x80000006#32, none, .edx⟩
  | .fn80000007_EAX => some ⟨0x80000007#32, none, .eax⟩
  | .fn80000007_EBX => some ⟨0x80000007#32, none, .ebx⟩
  | .fn80000007_ECX => some ⟨0x80000007#32, none, .ecx⟩
  | .fn80000007_EDX => some ⟨0x80000007#32, none, .edx⟩
  | .fn80000008_EAX => some ⟨0x80000008#32, none, .eax⟩
  | .fn80000008_EBX => some ⟨0x80000008#32, none, .ebx⟩
  | .fn80000008_ECX => some ⟨0x80000008#32, none, .ecx⟩
  | .fn8000000A_EAX => some ⟨0x8000000A#32, none, .eax⟩
  | .fn8000000A_EBX => some ⟨0x8000000A#32, none, .ebx⟩
  | .fn8000000A_EDX => some ⟨0x8000000A#32, none, .edx⟩
  | .fn80000019_EAX => some ⟨0x80000019#32, none, .eax⟩
  | .fn80000019_EBX => some ⟨0x80000019#32, none, .ebx⟩
  | .fn8000001A_EAX => some ⟨0x8000001A#32, none, .eax⟩
  | .fn8000001B_EAX => some ⟨0x8000001B#32, none, .eax⟩
  | .fn8000001D_EAX_x00 => some ⟨0x8000001D#32, some 0x00000000#32, .eax⟩
  | .fn8000001D_EAX_x01 => some ⟨0x8000001D#32, some 0x00000001#32, .eax⟩
  | .fn8000001D_EAX_x02 => some ⟨0x8000001D#32, some 0x00000002#32, .eax⟩
  | .fn8000001D_EAX_x03 => some ⟨0x8000001D#32, some 0x00000003#32, .eax⟩
  | .fn8000001D_EAX_x04 => some ⟨0x8000001D#32, some 0x00000004#32, .eax⟩
  | .fn8000001D_EBX_x00 => some ⟨0x8000001D#32, some 0x00000000#32, .ebx⟩
  | .fn8000001D_EBX_x01 => some ⟨0x8000001D#32, some 0x00000001#32, .ebx⟩
  | .fn8000001D_EBX_x02 => some ⟨0x8000001D#32, some 0x00000002#32, .ebx⟩
  | .fn8000001D_EBX_x03 => some ⟨0x8000001D#32, some 0x00000003#32, .ebx⟩
  | .fn8000001D_EBX_x04 => some ⟨0x8000001D#32, some 0x00000004#32, .ebx⟩
  | .fn8000001D_ECX_x00 => some ⟨0x8000001D#32, some 0x00000000#32, .ecx⟩
  | .fn8000001D_ECX_x01 => some ⟨0x8000001D#32, some 0x00000001#32, .ecx⟩
  | .fn8000001D_ECX_x02 => some ⟨0x8000001D#32, some 0x00000002#32, .ecx⟩
  | .fn8000001D_ECX_x03 => some ⟨0x8000001D#32, some 0x00000003#32, .ecx⟩
  | .fn8000001D_ECX_x04 => some ⟨0x8000001D#32, some 0x00000004#32, .ecx⟩
  | .fn8000001D_EDX_x00 => some ⟨0x8000001D#32, some 0x00000000#32, .edx⟩
  | .fn8000001D_EDX_x01 => some ⟨0x8000001D#32, some 0x00000001#32, .edx⟩
  | .fn8000001D_EDX_x02 => some ⟨0x8000001D#32, some 0x00000002#32, .edx⟩
  | .fn8000001D_EDX_x03 => some ⟨0x8000001D#32, some 0x00000003#32, .edx⟩
  | .fn8000001D_EDX_x04 => some ⟨0x8000001D#32, some 0x00000004#32, .edx⟩
  | .fn8000001E_EAX => some ⟨0x8000001E#32, none, .eax⟩
  | .fn8000001E_EBX => some ⟨0x8000001E#32, none, .ebx⟩
  | .fn8000001E_ECX => some ⟨0x8000001E#32, none, .ecx⟩
  | .fn8000001F_EAX => some ⟨0x8000001F#32, none, .eax⟩
  | .fn8000001F_EBX => some ⟨0x8000001F#32, none, .ebx⟩
  | .fn8000001F_ECX => some ⟨0x8000001F#32, none, .ecx⟩
  | .fn8000001F_EDX => some ⟨0x8000001F#32, none, .edx⟩

/-- A row accepts an execution when all 32 bits of EAX_in match and, for a row with a subleaf, all 32 bits of ECX_in (R82, R102). -/
def Selector.accepts (sel : Selector) (fn sub : Word) : Bool :=
  fn == sel.fn && (match sel.sub with | none => true | some x => sub == x)

/-- The leaf table of R101, its 29 rows in its order. -/
def leafTable : List Leaf := [
  -- R130
  ⟨0x00000000#32, none, some .fn00000000_EAX, some .fn00000000_EBX, some .fn00000000_ECX, some .fn00000000_EDX⟩,
  -- R135
  ⟨0x00000001#32, none, some .fn00000001_EAX, some .fn00000001_EBX, some .fn00000001_ECX, some .fn00000001_EDX⟩,
  -- R140
  ⟨0x00000005#32, none, some .fn00000005_EAX, some .fn00000005_EBX, some .fn00000005_ECX, some .fn00000005_EDX⟩,
  -- R145
  ⟨0x00000006#32, none, some .fn00000006_EAX, some .fn00000006_EBX, some .fn00000006_ECX, some .fn00000006_EDX⟩,
  -- R150
  ⟨0x00000007#32, some 0x00000000#32, some .fn00000007_EAX_x00, some .fn00000007_EBX_x00, some .fn00000007_ECX_x00, some .fn00000007_EDX_x00⟩,
  -- R155
  ⟨0x0000000B#32, none, some .fn0000000B_EAX, some .fn0000000B_EBX, some .fn0000000B_ECX, some .fn0000000B_EDX⟩,
  -- R160
  ⟨0x0000000D#32, some 0x00000000#32, some .fn0000000D_EAX_x00, some .fn0000000D_EBX_x00, some .fn0000000D_ECX_x00, some .fn0000000D_EDX_x00⟩,
  -- R165
  ⟨0x0000000D#32, some 0x00000001#32, some .fn0000000D_EAX_x01, some .fn0000000D_EBX_x01, some .fn0000000D_ECX_x01, some .fn0000000D_EDX_x01⟩,
  -- R170
  ⟨0x0000000D#32, some 0x00000002#32, some .fn0000000D_EAX_x02, some .fn0000000D_EBX_x02, some .fn0000000D_ECX_x02, some .fn0000000D_EDX_x02⟩,
  -- R200
  ⟨0x80000000#32, none, some .fn80000000_EAX, some .fn80000000_EBX, some .fn80000000_ECX, some .fn80000000_EDX⟩,
  -- R205
  ⟨0x80000001#32, none, some .fn80000001_EAX, some .fn80000001_EBX, some .fn80000001_ECX, some .fn80000001_EDX⟩,
  -- R210
  ⟨0x80000002#32, none, some .fn80000002_EAX, some .fn80000002_EBX, some .fn80000002_ECX, some .fn80000002_EDX⟩,
  -- R215
  ⟨0x80000003#32, none, some .fn80000003_EAX, some .fn80000003_EBX, some .fn80000003_ECX, some .fn80000003_EDX⟩,
  -- R220
  ⟨0x80000004#32, none, some .fn80000004_EAX, some .fn80000004_EBX, some .fn80000004_ECX, some .fn80000004_EDX⟩,
  -- R240
  ⟨0x80000005#32, none, some .fn80000005_EAX, some .fn80000005_EBX, some .fn80000005_ECX, some .fn80000005_EDX⟩,
  -- R245
  ⟨0x80000006#32, none, some .fn80000006_EAX, some .fn80000006_EBX, some .fn80000006_ECX, some .fn80000006_EDX⟩,
  -- R250
  ⟨0x80000007#32, none, some .fn80000007_EAX, some .fn80000007_EBX, some .fn80000007_ECX, some .fn80000007_EDX⟩,
  -- R255
  ⟨0x80000008#32, none, some .fn80000008_EAX, some .fn80000008_EBX, some .fn80000008_ECX, none⟩,
  -- R259
  ⟨0x8000000A#32, none, some .fn8000000A_EAX, some .fn8000000A_EBX, none, some .fn8000000A_EDX⟩,
  -- R280
  ⟨0x80000019#32, none, some .fn80000019_EAX, some .fn80000019_EBX, none, none⟩,
  -- R283
  ⟨0x8000001A#32, none, some .fn8000001A_EAX, none, none, none⟩,
  -- R285
  ⟨0x8000001B#32, none, some .fn8000001B_EAX, none, none, none⟩,
  -- R287
  ⟨0x8000001D#32, some 0x00000000#32, some .fn8000001D_EAX_x00, some .fn8000001D_EBX_x00, some .fn8000001D_ECX_x00, some .fn8000001D_EDX_x00⟩,
  -- R288
  ⟨0x8000001D#32, some 0x00000001#32, some .fn8000001D_EAX_x01, some .fn8000001D_EBX_x01, some .fn8000001D_ECX_x01, some .fn8000001D_EDX_x01⟩,
  -- R289
  ⟨0x8000001D#32, some 0x00000002#32, some .fn8000001D_EAX_x02, some .fn8000001D_EBX_x02, some .fn8000001D_ECX_x02, some .fn8000001D_EDX_x02⟩,
  -- R290
  ⟨0x8000001D#32, some 0x00000003#32, some .fn8000001D_EAX_x03, some .fn8000001D_EBX_x03, some .fn8000001D_ECX_x03, some .fn8000001D_EDX_x03⟩,
  -- R291
  ⟨0x8000001D#32, some 0x00000004#32, some .fn8000001D_EAX_x04, some .fn8000001D_EBX_x04, some .fn8000001D_ECX_x04, some .fn8000001D_EDX_x04⟩,
  -- R312
  ⟨0x8000001E#32, none, some .fn8000001E_EAX, some .fn8000001E_EBX, some .fn8000001E_ECX, none⟩,
  -- R316
  ⟨0x8000001F#32, none, some .fn8000001F_EAX, some .fn8000001F_EBX, some .fn8000001F_ECX, some .fn8000001F_EDX⟩]

/-- A leaf matches when its `EAX_in` equals `fn` and its `ECX_in` column is "any" or equals `sub` (R101). -/
def Leaf.matches (lf : Leaf) (fn sub : Word) : Bool :=
  fn == lf.fn && (match lf.sub with | none => true | some x => sub == x)

/-- The column of a leaf for one output register. -/
def Leaf.row (lf : Leaf) : Gpr → Option Instr
  | .eax => lf.eax
  | .ebx => lf.ebx
  | .ecx => lf.ecx
  | .edx => lf.edx

/-- The register row that a point of the selector space reaches, if the source lists one (R30, R101). -/
def decodePoint (p : Point) : Option Instr :=
  (leafTable.find? (fun lf => lf.matches p.fn p.sub)).bind (fun lf => lf.row p.out)

/-- The encoding of a row: the bytes of `CPUID`, or the point a register's selector names (subleaf 0 where the row ignores it). -/
def encode (i : Instr) : Code :=
  match i.selector with
  | none => .bytes [0x0F#8, 0xA2#8]
  | some sel => .point ⟨sel.fn, sel.sub.getD 0#32, sel.out⟩

/-- Read a row back from either layer. Bytes left over after the instruction are no encoding of it. -/
def decodeCode : Code → Option Instr
  | .bytes b =>
    match decode b with
    | .ok (i, []) => some i
    | _ => none
  | .point p => decodePoint p

/-- The output register by number, in the order EAX, EBX, ECX, EDX. -/
def gprOfNumber (n : Nat) : Option Gpr :=
  match n with
  | 0 => some .eax
  | 1 => some .ebx
  | 2 => some .ecx
  | 3 => some .edx
  | _ => none

/-- The encoding that a number of the opcode table stands for. A row of at most 16 bits is an instruction's two bytes, byte 0
in bits 15:8 (R80, R90). A longer row is a selector: EAX_in in bits 31:0, then ECX_in in bits 63:32 and the output register in
bits 71:64, which the table leaves out. See notes/assumptions/2.md. -/
def codeOfTableWord (nbits w : Nat) : Option Code :=
  if nbits ≤ 16 then some (.bytes [BitVec.ofNat 8 (w / 2 ^ 8), BitVec.ofNat 8 w])
  else (gprOfNumber (w / 2 ^ 64)).map (fun r => .point ⟨BitVec.ofNat 32 w, BitVec.ofNat 32 (w / 2 ^ 32), r⟩)

/-- The row the decoder reads from a number of the opcode table. -/
def decodeTableWord (nbits w : Nat) : Option Instr :=
  (codeOfTableWord nbits w).bind decodeCode

end Sys2Proof
end

