-- ==== Sys2Proof/Machine/State.lean ====
section
/-! DEFINITION. The state of the machine: the product configuration, the threads with their registers and inputs, the
instruction memory, and the plain data that says which agent moves next. -/

namespace Sys2Proof.Machine

/-- The inputs `In.*` of one thread: the bits outside the register file that feed its fields (R26). Written by the
environment agent only (D26). -/
structure Inputs where
  /-- `In.OSXSAVE` -/
  osxsave : Bool
  /-- `In.MonMwaitDis`, HWCR[MonMwaitDis] -/
  monMwaitDis : Bool
  /-- `In.ApicEn`, APIC_BAR[ApicEn] -/
  apicEn : Bool
  /-- `In.XCR0_AVX`, XCR0[AVX] -/
  xcr0Avx : Bool
  /-- `In.ApicId(t)`, Apic::ApicId[ApicId] -/
  apicId : BitVec 8
  /-- `In.ProcNameString(n)[k]`, byte 8n + k of the processor name string -/
  procNameString : Vector (Vector Byte 8) 6
  /-- `In.NASID` -/
  nasid : Word
deriving DecidableEq, Repr

/-- The values by which the override MSRs replace five registers of one thread, where one was written (R27, R109). No move
of the model writes one (D11). See notes/assumptions/14.md. -/
structure Overrides where
  /-- CPUID_Features over `CPUID_Fn00000001_ECX` -/
  featureIdEcx : Option Word
  /-- CPUID_Features over `CPUID_Fn00000001_EDX` -/
  featureIdEdx : Option Word
  /-- CPUID_ExtFeatures over `CPUID_Fn80000001_ECX` -/
  featureExtIdEcx : Option Word
  /-- CPUID_ExtFeatures over `CPUID_Fn80000001_EDX` -/
  featureExtIdEdx : Option Word
  /-- CPUID_PWR_THERM over `CPUID_Fn00000006_ECX` -/
  thermalPwrMgmtEcx : Option Word
deriving DecidableEq, Repr

/-- The state of one thread (R20, R21, R22, R23, R26, R27). -/
structure Hart where
  rax : QWord
  rbx : QWord
  rcx : QWord
  rdx : QWord
  /-- the instruction pointer; with `PcWidth.w32` bits 63:32 are 0 -/
  pc : QWord
  rflags : QWord
  inputs : Inputs
  overrides : Overrides
  /-- The model's own: the key of the function `Unlisted` (R104) that holds for the thread now. No count of anything. -/
  unlistedKey : Nat
deriving DecidableEq, Repr

/-- A change the environment makes to one input of a thread (D26). -/
inductive InputChange where
  | osxsave (b : Bool)
  | monMwaitDis (b : Bool)
  | apicEn (b : Bool)
  | xcr0Avx (b : Bool)
  | apicId (v : BitVec 8)
  | procNameByte (n : Fin 6) (k : Fin 8) (v : Byte)
  | nasid (v : Word)
deriving DecidableEq, Repr

/-- One move of an agent: a thread runs its next instruction, or the environment changes an input of a thread (R350, D26). -/
inductive Move where
  | run (t : ThreadId)
  | change (t : ThreadId) (ch : InputChange)
deriving DecidableEq, Repr

/-- Instruction memory: bytes at addresses, in strictly rising order of address. -/
abbrev Memory := List Host.Cell

/-- The machine. -/
structure State where
  /-- the product configuration `P` (R25): read by every value, written by nothing -/
  params : Params
  /-- the threads, at `ThreadId.index` -/
  harts : Vector Hart 16
  /-- the program bytes (R60, D26) -/
  mem : Memory
  /-- The model's own: the thread that runs when nothing is scheduled. -/
  current : ThreadId
  /-- The model's own: the moves scheduled next, first one first. -/
  agenda : List Move
deriving DecidableEq, Repr

/-- Why the machine stops with a fault: it never does. "the set of exceptions of the model is empty" (R340), and no
behaviour of this hardware is a fault or a stuck state (93_implementation_defined.md). Safe. -/
inductive Fault where
deriving DecidableEq, Repr

/-- Why the model says nothing about what comes next. -/
inductive Refusal where
  /-- Raised by an arm of `exec` whose instruction has no meaning yet; no arm answers it. Safe. -/
  | notModelled (mnemonic : String)
  /-- Raised by every instruction when the configuration has a reserved value or `P.NC` = FFh (R8, D21, D24). Safe: the spec
  refuses such a configuration. -/
  | reservedConfiguration
  /-- Raised by every instruction when the thread that is to run is not in `P.Threads` (R20). Safe: there is no such thread. -/
  | noSuchThread
  /-- Raised by `step` when no byte stands at pc: the program has ended (D22), or the fetch fails (U18). Safe. -/
  | endOfProgram
  /-- Raised by `step` when the byte 0Fh at pc has no byte after it (vector E5, R86). Safe. -/
  | truncatedInstruction
  /-- Raised by `step` when the byte at pc is a prefix: prefixed forms are refused (R87, D2, U17). Safe. -/
  | prefixedInstruction
  /-- Raised by `step` when the bytes at pc are no instruction of the spec (R86, D22, U17). Safe. -/
  | notAnInstruction
deriving DecidableEq, Repr

/-- The inputs after reset. `NASID` is the spec's 0000_8000h (R26, R372); the rest are chosen (notes/assumptions/9.md, 10.md):
the customary values R372 names, and an unwritten name string. -/
def Inputs.reset (apicId : BitVec 8) : Inputs where
  osxsave := false
  monMwaitDis := false
  apicEn := true
  xcr0Avx := false
  apicId := apicId
  procNameString := Vector.replicate 6 (Vector.replicate 8 0#8)
  nasid := 0x00008000#32

/-- No override MSR has been written (R27, R109, D11). -/
def Overrides.none : Overrides where
  featureIdEcx := Option.none
  featureIdEdx := Option.none
  featureExtIdEcx := Option.none
  featureExtIdEdx := Option.none
  thermalPwrMgmtEcx := Option.none

/-- One thread after reset. The spec gives no value for the general registers, pc and the flags (R371): chosen, see
notes/assumptions/6.md, 7.md, 8.md. -/
def Hart.reset (apicId : BitVec 8) : Hart where
  rax := 0#64
  rbx := 0#64
  rcx := 0#64
  rdx := 0#64
  pc := 0#64
  rflags := 0x2#64
  inputs := Inputs.reset apicId
  overrides := Overrides.none
  unlistedKey := 0

/-- A thread that is not in `P.Threads`. -/
def absentThread : ThreadParams where
  present := false
  localApicId := 0#8
  coreId := 0#8
  nodeId := 0#8
  numSharingCacheIC := 0#12
  numSharingCacheL2 := 0#12
  numSharingCacheL3 := 0#12

/-- A thread of configuration REF with the given identifiers (95_test_vectors.md, sections 2 and 3.5). -/
def refThread (localApicId coreId : BitVec 8) : ThreadParams where
  present := true
  localApicId := localApicId
  coreId := coreId
  nodeId := 0#8
  numSharingCacheIC := 0x001#12
  numSharingCacheL2 := 0x001#12
  numSharingCacheL3 := 0x007#12

/-- Configuration REF of 95_test_vectors.md section 2, with the two threads t0 = (0,0,0) and t1 = (0,1,1) of section 3.5.
The choice of it for `State.reset` is the model's (notes/assumptions/5.md). -/
def refParams : Params where
  baseModel := 0x1#4
  aes := true
  pclmulqdq := true
  xFeatureSupportedSizeMax := 0x340#32
  pkgType := 0x2#4
  l2DTlb2and4MAssoc := 0x2#4
  l2DTlb4KAssoc := 0x6#4
  l3Size := 0x0020#14
  l3Assoc := 0x8#4
  succor := false
  apicIdSize := 0x4#4
  nc := 0x0F#8
  l3NumSets := 0x1FFF#32
  threadsPerCore := 0x01#8
  nodesPerProcessor := 0#3
  minimumSevAsid := 0x1#32
  thread := #v[refThread 0x00#8 0x00#8, absentThread, absentThread, refThread 0x03#8 0x01#8, absentThread, absentThread, absentThread, absentThread,
    absentThread, absentThread, absentThread, absentThread, absentThread, absentThread, absentThread, absentThread]
  numSharingCacheDC := #v[0x001#12, 0x001#12, 0#12, 0#12, 0#12, 0#12, 0#12, 0#12]
  pcWidth := .w64

/-- The machine right after reset (R28, R370, R371, R372). -/
def State.reset : State where
  params := refParams
  harts := #v[.reset 0x00#8, .reset 0#8, .reset 0#8, .reset 0x03#8, .reset 0#8, .reset 0#8, .reset 0#8, .reset 0#8,
    .reset 0#8, .reset 0#8, .reset 0#8, .reset 0#8, .reset 0#8, .reset 0#8, .reset 0#8, .reset 0#8]
  mem := []
  current := ⟨0, 1, 1⟩
  agenda := []

end Sys2Proof.Machine
end

