-- ==== Sys2Proof/Machine/Ops.lean ====
section
/-! DEFINITION. The named operations over threads, memory, the instruction pointer and the inputs. There is no operation that
takes an exception or returns from one: the spec has none (R340, R343, R344). -/

namespace Sys2Proof

/-- The place of a thread in a table of threads. The spec gives no numbering (R350): this one serves the tables only. -/
def ThreadId.index (t : ThreadId) : Fin 16 :=
  ⟨8 * t.l.val + 2 * t.c.val + t.h.val, by have := t.l.isLt; have := t.c.isLt; have := t.h.isLt; omega⟩

/-- The place of `core(t)` = (l, c) in a table of cores (R12, R20). -/
def ThreadId.coreIndex (t : ThreadId) : Fin 8 :=
  ⟨4 * t.l.val + t.c.val, by have := t.l.isLt; have := t.c.isLt; omega⟩

/-- The parameters of thread `t` (R8, R107). -/
def Params.threadParams (p : Params) (t : ThreadId) : ThreadParams := p.thread.get t.index

/-- `P.NumSharingCache_DC(core(t))`: both threads of a core read the same value (R20, R107, R292). -/
def Params.dcSharing (p : Params) (t : ThreadId) : BitVec 12 := p.numSharingCacheDC.get t.coreIndex

namespace Machine

/-- The state of thread `t`. -/
def State.hart (s : State) (t : ThreadId) : Hart := s.harts.get t.index

/-- Replace the state of thread `t`, and nothing else. -/
def State.setHart (s : State) (t : ThreadId) (h : Hart) : State :=
  { s with harts := s.harts.set t.index.val h }

/-- The thread that executes. -/
def State.self (s : State) : Hart := s.hart s.current

/-- Replace the state of the thread that executes. -/
def State.setSelf (s : State) (h : Hart) : State := s.setHart s.current h

/-- What an address that no entry lists reads as: no value. The spec gives memory no contents (R60, R65): see
notes/assumptions/11.md. -/
def Memory.unlistedByte : Option Byte := none

/-- The byte at an address, if the memory holds one. -/
def Memory.readByte : Memory → Nat → Option Byte
  | [], _ => Memory.unlistedByte
  | c :: m, a => if c.1 = a then some c.2 else Memory.readByte m a

/-- Put a byte at an address, keeping the addresses strictly rising. -/
def Memory.writeByte : Memory → Nat → Byte → Memory
  | [], a, b => [(a, b)]
  | c :: m, a, b =>
    if a < c.1 then (a, b) :: c :: m
    else if a = c.1 then (a, b) :: m
    else c :: Memory.writeByte m a b

/-- The canonical form: addresses strictly rising, each one of the 64-bit address space. An unlisted address reads as no
value, so no entry equals it. -/
def Memory.wf : Memory → Bool
  | [] => true
  | [c] => decide (c.1 < 2 ^ 64)
  | c :: d :: m => decide (c.1 < d.1) && Memory.wf (d :: m)

/-- `P.PcWidth` as a number of bits (R22). -/
def pcBits : PcWidth → Nat
  | .w32 => 32
  | .w64 => 64

/-- Instruction pointers are numbers modulo 2^`P.PcWidth` (R22). -/
def wrapPc : PcWidth → QWord → QWord
  | .w32, pc => (pc.setWidth 32).setWidth 64
  | .w64, pc => pc

/-- `pc + n` modulo 2^`P.PcWidth` (R22). -/
def advancePc (w : PcWidth) (pc : QWord) (n : Nat) : QWord := wrapPc w (pc + BitVec.ofNat 64 n)

/-- The bytes the fetch finds: those at `pc` and `pc + 1` in address order, up to the first that is missing (R60, R62, R63). -/
def State.fetchBytes (s : State) : List Byte :=
  let pc := s.self.pc
  match s.mem.readByte (wrapPc s.params.pcWidth pc).toNat with
  | none => []
  | some b0 =>
    match s.mem.readByte (advancePc s.params.pcWidth pc 1).toNat with
    | none => [b0]
    | some b1 => [b0, b1]

/-- A change of one input (R26, D26). -/
def Inputs.change (i : Inputs) : InputChange → Inputs
  | .osxsave b => { i with osxsave := b }
  | .monMwaitDis b => { i with monMwaitDis := b }
  | .apicEn b => { i with apicEn := b }
  | .xcr0Avx b => { i with xcr0Avx := b }
  | .apicId v => { i with apicId := v }
  | .procNameByte n k v => { i with procNameString := i.procNameString.set n.val ((i.procNameString.get n).set k.val v) }
  | .nasid v => { i with nasid := v }

/-- The environment's move: it changes one input of one thread and cannot write anything else (D26). -/
def State.changeInput (s : State) (t : ThreadId) (ch : InputChange) : State :=
  s.setHart t { s.hart t with inputs := (s.hart t).inputs.change ch }

/-- What every instruction asks before it runs: a configuration the spec describes (R8, D24) and a thread that exists (R20).
Otherwise the model refuses. -/
def State.whenReady (s : State) (k : Host.Outcome State Fault Refusal) : Host.Outcome State Fault Refusal :=
  if s.params.wellFormed then
    if (s.params.threadParams s.current).present then k else .refused .noSuchThread
  else .refused .reservedConfiguration

/-- The refusal by which `step` reports bytes that are no instruction of the spec. -/
def rejection : DecodeReject → Refusal
  | .empty => .endOfProgram
  | .truncated => .truncatedInstruction
  | .prefixed _ => .prefixedInstruction
  | .notCpuid _ _ => .notAnInstruction

end Machine

end Sys2Proof
end

