-- ==== Sys2Proof/Machine/Operands.lean ====
section
/-! DEFINITION. The operands of `CPUID`: all implicit (R81). Inputs EAX and ECX, outputs EAX, EBX, ECX, EDX, and the snapshot
of parameters and inputs that one execution reads. -/

namespace Sys2Proof.Machine

/-- A general register at full width. -/
def Hart.fullGpr (h : Hart) : Gpr → QWord
  | .eax => h.rax
  | .ebx => h.rbx
  | .ecx => h.rcx
  | .edx => h.rdx

/-- `x[r]`, the 32-bit view: bits 31:0 (R11, R21, D3). -/
def Hart.gpr (h : Hart) (r : Gpr) : Word := (h.fullGpr r).setWidth 32

/-- `x[r] <- v`: a 32-bit write, which clears bits 63:32 (R11, R100, D3). -/
def Hart.writeGpr (h : Hart) (r : Gpr) (v : Word) : Hart :=
  match r with
  | .eax => { h with rax := v.setWidth 64 }
  | .ebx => { h with rbx := v.setWidth 64 }
  | .ecx => { h with rcx := v.setWidth 64 }
  | .edx => { h with rdx := v.setWidth 64 }

/-- The function number, `EAX_in` (R12, R100). -/
def Hart.functionIn (h : Hart) : Word := h.gpr .eax

/-- The subleaf number, `ECX_in` (R12, R100). -/
def Hart.subleafIn (h : Hart) : Word := h.gpr .ecx

/-- What one execution reads, taken at one moment: `P`, the executing thread, its inputs and overrides, and the two operands
(R64, R100, R107). -/
structure Snapshot where
  p : Params
  t : ThreadId
  inp : Inputs
  ov : Overrides
  /-- the model's own: which function `Unlisted` holds (R104) -/
  key : Nat
  fn : Word
  sub : Word
deriving DecidableEq, Repr

/-- The snapshot the executing thread takes. -/
def State.snapshot (s : State) : Snapshot where
  p := s.params
  t := s.current
  inp := s.self.inputs
  ov := s.self.overrides
  key := s.self.unlistedKey
  fn := s.self.functionIn
  sub := s.self.subleafIn

/-- The parameters of the executing thread. -/
def Snapshot.tp (v : Snapshot) : ThreadParams := v.p.threadParams v.t

/-- `Unlisted(t, fn, sub, reg)`, the free value (R104). -/
def Snapshot.unlisted (v : Snapshot) (out : Gpr) : Word := Config.unlisted v.key v.t v.fn v.sub out

/-- `In.ProcNameString(n)[k]` (R26). -/
def Snapshot.name (v : Snapshot) (n : Fin 6) (k : Fin 8) : Byte := (v.inp.procNameString.get n).get k

end Sys2Proof.Machine
end

