-- ==== Sys2Proof/Machine/Rows.lean ====
section
/-! DEFINITION. The shared meaning of the 105 register rows of the opcode table. A row's rule says "x[out] <- Val(t, r)",
"done by rule R100 when the selector matches": the row run alone is that one write. See notes/assumptions/1.md. -/

namespace Sys2Proof.Machine

/-- Write one output register of the executing thread, and nothing else. -/
def State.writeOutput (s : State) (out : Gpr) (w : Word) : State :=
  s.setSelf (s.self.writeGpr out w)

/-- A register row run alone: where its selector accepts EAX_in and ECX_in (R82, R90), its output register receives its
value and nothing else changes; where it does not, nothing is written. -/
def execRow (i : Instr) (value : Snapshot → Word) (s : State) : Host.Outcome State Fault Refusal :=
  s.whenReady <|
    match i.selector with
    | none => .next s
    | some sel =>
      if sel.accepts s.self.functionIn s.self.subleafIn then .next (s.writeOutput sel.out (value s.snapshot))
      else .next s

end Sys2Proof.Machine
end

