-- ==== Sys2Proof/Machine/ExtIdentity.lean ====
section
/-! DEFINITION. The registers of functions 8000_0000h to 8000_0004h:
vendor, identity, features, name string (R200 to R224). For each register: its fields, its
value, and its row run alone. -/

namespace Sys2Proof.Machine

/-- R201, `CPUID_Fn80000000_EAX`, LargExtFuncNum: Largest Extended Function Number. -/
def fields_fn80000000_EAX (_v : Snapshot) : List Field := [
  fixedField 31 0 "LFuncExt" 0x8000001F#32]

/-- R201, R105. -/
def value_fn80000000_EAX (v : Snapshot) : Word := compose (fields_fn80000000_EAX v)

/-- R201: `x[EAX] <- Val(t, CPUID_Fn80000000_EAX)`. -/
def exec_fn80000000_EAX (s : State) : Host.Outcome State Fault Refusal := execRow .fn80000000_EAX value_fn80000000_EAX s

/-- R202, `CPUID_Fn80000000_EBX`, ProcVendExtEbx: Processor Vendor (ASCII Bytes [3:0]). -/
def fields_fn80000000_EBX (_v : Snapshot) : List Field := [
  fixedField 31 0 "Vendor" 0x68747541#32]

/-- R202, R105. -/
def value_fn80000000_EBX (v : Snapshot) : Word := compose (fields_fn80000000_EBX v)

/-- R202: `x[EBX] <- Val(t, CPUID_Fn80000000_EBX)`. -/
def exec_fn80000000_EBX (s : State) : Host.Outcome State Fault Refusal := execRow .fn80000000_EBX value_fn80000000_EBX s

/-- R203, `CPUID_Fn80000000_ECX`, ProcVendExtEcx: Processor Vendor (ASCII Bytes [11:8]). -/
def fields_fn80000000_ECX (_v : Snapshot) : List Field := [
  fixedField 31 0 "Vendor" 0x444D4163#32]

/-- R203, R105. -/
def value_fn80000000_ECX (v : Snapshot) : Word := compose (fields_fn80000000_ECX v)

/-- R203: `x[ECX] <- Val(t, CPUID_Fn80000000_ECX)`. -/
def exec_fn80000000_ECX (s : State) : Host.Outcome State Fault Refusal := execRow .fn80000000_ECX value_fn80000000_ECX s

/-- R204, `CPUID_Fn80000000_EDX`, ProcVendExtEdx: Processor Vendor (ASCII Bytes [7:4]). -/
def fields_fn80000000_EDX (_v : Snapshot) : List Field := [
  fixedField 31 0 "Vendor" 0x69746E65#32]

/-- R204, R105. -/
def value_fn80000000_EDX (v : Snapshot) : Word := compose (fields_fn80000000_EDX v)

/-- R204: `x[EDX] <- Val(t, CPUID_Fn80000000_EDX)`. -/
def exec_fn80000000_EDX (s : State) : Host.Outcome State Fault Refusal := execRow .fn80000000_EDX value_fn80000000_EDX s

/-- R206, `CPUID_Fn80000001_EAX`, FamModStepExt: Family, Model, Stepping Identifiers. -/
def fields_fn80000001_EAX (v : Snapshot) : List Field := [
  reservedField 31 28,
  plainField 27 20 "ExtFamily" 0x8#32,
  plainField 19 16 "ExtModel" 0x0#32,
  reservedField 15 12,
  plainField 11 8 "BaseFamily" 0xF#32,
  paramField 7 4 "BaseModel" (zext v.p.baseModel),
  plainField 3 0 "Stepping" 0x2#32]

/-- R206, R105. -/
def value_fn80000001_EAX (v : Snapshot) : Word := compose (fields_fn80000001_EAX v)

/-- R206: `x[EAX] <- Val(t, CPUID_Fn80000001_EAX)`. -/
def exec_fn80000001_EAX (s : State) : Host.Outcome State Fault Refusal := execRow .fn80000001_EAX value_fn80000001_EAX s

/-- R207, `CPUID_Fn80000001_EBX`, BrandId: BrandId Identifier. -/
def fields_fn80000001_EBX (v : Snapshot) : List Field := [
  paramField 31 28 "PkgType" (zext v.p.pkgType),
  reservedField 27 0]

/-- R207, R105. -/
def value_fn80000001_EBX (v : Snapshot) : Word := compose (fields_fn80000001_EBX v)

/-- R207: `x[EBX] <- Val(t, CPUID_Fn80000001_EBX)`. -/
def exec_fn80000001_EBX (s : State) : Host.Outcome State Fault Refusal := execRow .fn80000001_EBX value_fn80000001_EBX s

/-- R208, `CPUID_Fn80000001_ECX`, FeatureExtIdEcx: Feature Identifiers. -/
def fields_fn80000001_ECX (v : Snapshot) : List Field := [
  reservedField 31 30,
  inputField 29 29 "MwaitExtended" (bit (!v.inp.monMwaitDis)),
  fixedField 28 28 "PerfCtrExtLLC" 0x1#32,
  fixedField 27 27 "PerfTsc" 0x0#32,
  fixedField 26 26 "DataBreakpointExtension" 0x1#32,
  reservedField 25 24,
  fixedField 23 23 "PerfCtrExtCore" 0x1#32,
  fixedField 22 22 "TopologyExtensions" 0x1#32,
  reservedField 21 18,
  fixedField 17 17 "TCE" 0x1#32,
  fixedField 16 16 "FMA4" 0x0#32,
  fixedField 15 15 "LWP" 0x0#32,
  reservedField 14 14,
  fixedField 13 13 "WDT" 0x1#32,
  fixedField 12 12 "SKINIT" 0x1#32,
  fixedField 11 11 "XOP" 0x0#32,
  plainField 10 10 "IBS" 0x0#32,
  fixedField 9 9 "OSVW" 0x1#32,
  fixedField 8 8 "ThreeDNowPrefetch" 0x1#32,
  fixedField 7 7 "MisAlignSse" 0x1#32,
  fixedField 6 6 "SSE4A" 0x1#32,
  fixedField 5 5 "ABM" 0x1#32,
  fixedField 4 4 "AltMovCr8" 0x1#32,
  fixedField 3 3 "ExtApicSpace" 0x1#32,
  fixedField 2 2 "SVM" 0x1#32,
  paramField 1 1 "CmpLegacy" (bit (decide (0#8 < v.p.nc))),
  fixedField 0 0 "LahfSahf" 0x1#32]

/-- R208, R105, and the override of R109. -/
def value_fn80000001_ECX (v : Snapshot) : Word := overridden v.ov.featureExtIdEcx (compose (fields_fn80000001_ECX v))

/-- R208: `x[ECX] <- Val(t, CPUID_Fn80000001_ECX)`. -/
def exec_fn80000001_ECX (s : State) : Host.Outcome State Fault Refusal := execRow .fn80000001_ECX value_fn80000001_ECX s

/-- `FeatureExtIdEcx[SVM]`, bit 2, as the register reads (R110 (a), R208). -/
def Snapshot.svmReported (v : Snapshot) : Bool := (value_fn80000001_ECX v).getLsbD 2

/-- `FeatureExtIdEcx[TopologyExtensions]`, bit 22, as the register reads (R110 (b), R208). -/
def Snapshot.topologyReported (v : Snapshot) : Bool := (value_fn80000001_ECX v).getLsbD 22

/-- R209, `CPUID_Fn80000001_EDX`, FeatureExtIdEdx: Feature Identifiers. -/
def fields_fn80000001_EDX (v : Snapshot) : List Field := [
  fixedField 31 31 "ThreeDNow" 0x0#32,
  fixedField 30 30 "ThreeDNowExt" 0x0#32,
  fixedField 29 29 "LM" 0x1#32,
  reservedField 28 28,
  fixedField 27 27 "RDTSCP" 0x1#32,
  fixedField 26 26 "Page1GB" 0x1#32,
  fixedField 25 25 "FFXSR" 0x1#32,
  fixedField 24 24 "FXSR" 0x1#32,
  fixedField 23 23 "MMX" 0x1#32,
  fixedField 22 22 "MmxExt" 0x1#32,
  reservedField 21 21,
  fixedField 20 20 "NX" 0x1#32,
  reservedField 19 18,
  fixedField 17 17 "PSE36" 0x1#32,
  fixedField 16 16 "PAT" 0x1#32,
  fixedField 15 15 "CMOV" 0x1#32,
  fixedField 14 14 "MCA" 0x1#32,
  fixedField 13 13 "PGE" 0x1#32,
  fixedField 12 12 "MTRR" 0x1#32,
  fixedField 11 11 "SysCallSysRet" 0x1#32,
  reservedField 10 10,
  inputField 9 9 "APIC" (bit v.inp.apicEn),
  fixedField 8 8 "CMPXCHG8B" 0x1#32,
  fixedField 7 7 "MCE" 0x1#32,
  fixedField 6 6 "PAE" 0x1#32,
  fixedField 5 5 "MSR" 0x1#32,
  fixedField 4 4 "TSC" 0x1#32,
  fixedField 3 3 "PSE" 0x1#32,
  fixedField 2 2 "DE" 0x1#32,
  fixedField 1 1 "VME" 0x1#32,
  fixedField 0 0 "FPU" 0x1#32]

/-- R209, R105, and the override of R109. -/
def value_fn80000001_EDX (v : Snapshot) : Word := overridden v.ov.featureExtIdEdx (compose (fields_fn80000001_EDX v))

/-- R209: `x[EDX] <- Val(t, CPUID_Fn80000001_EDX)`. -/
def exec_fn80000001_EDX (s : State) : Host.Outcome State Fault Refusal := execRow .fn80000001_EDX value_fn80000001_EDX s

/-- R211, `CPUID_Fn80000002_EAX`, ProcNameStr0Eax: Processor Name String Identifier (Bytes [3:0]). -/
def fields_fn80000002_EAX (v : Snapshot) : List Field := [
  inputField 31 24 "ProcNameByte3" (zext (v.name 0 3)),
  inputField 23 16 "ProcNameByte2" (zext (v.name 0 2)),
  inputField 15 8 "ProcNameByte1" (zext (v.name 0 1)),
  inputField 7 0 "ProcNameByte0" (zext (v.name 0 0))]

/-- R211, R105. -/
def value_fn80000002_EAX (v : Snapshot) : Word := compose (fields_fn80000002_EAX v)

/-- R211: `x[EAX] <- Val(t, CPUID_Fn80000002_EAX)`. -/
def exec_fn80000002_EAX (s : State) : Host.Outcome State Fault Refusal := execRow .fn80000002_EAX value_fn80000002_EAX s

/-- R212, `CPUID_Fn80000002_EBX`, ProcNameStr0Ebx: Processor Name String Identifier (Bytes [7:4]). -/
def fields_fn80000002_EBX (v : Snapshot) : List Field := [
  inputField 31 24 "ProcNameByte7" (zext (v.name 0 7)),
  inputField 23 16 "ProcNameByte6" (zext (v.name 0 6)),
  inputField 15 8 "ProcNameByte5" (zext (v.name 0 5)),
  inputField 7 0 "ProcNameByte4" (zext (v.name 0 4))]

/-- R212, R105. -/
def value_fn80000002_EBX (v : Snapshot) : Word := compose (fields_fn80000002_EBX v)

/-- R212: `x[EBX] <- Val(t, CPUID_Fn80000002_EBX)`. -/
def exec_fn80000002_EBX (s : State) : Host.Outcome State Fault Refusal := execRow .fn80000002_EBX value_fn80000002_EBX s

/-- R213, `CPUID_Fn80000002_ECX`, ProcNameStr0Ecx: Processor Name String Identifier (Bytes [11:8]). -/
def fields_fn80000002_ECX (v : Snapshot) : List Field := [
  inputField 31 24 "ProcNameByte11" (zext (v.name 1 3)),
  inputField 23 16 "ProcNameByte10" (zext (v.name 1 2)),
  inputField 15 8 "ProcNameByte9" (zext (v.name 1 1)),
  inputField 7 0 "ProcNameByte8" (zext (v.name 1 0))]

/-- R213, R105. -/
def value_fn80000002_ECX (v : Snapshot) : Word := compose (fields_fn80000002_ECX v)

/-- R213: `x[ECX] <- Val(t, CPUID_Fn80000002_ECX)`. -/
def exec_fn80000002_ECX (s : State) : Host.Outcome State Fault Refusal := execRow .fn80000002_ECX value_fn80000002_ECX s

/-- R214, `CPUID_Fn80000002_EDX`, ProcNameStr0Edx: Processor Name String Identifier (Bytes [15:12]). -/
def fields_fn80000002_EDX (v : Snapshot) : List Field := [
  inputField 31 24 "ProcNameByte15" (zext (v.name 1 7)),
  inputField 23 16 "ProcNameByte14" (zext (v.name 1 6)),
  inputField 15 8 "ProcNameByte13" (zext (v.name 1 5)),
  inputField 7 0 "ProcNameByte12" (zext (v.name 1 4))]

/-- R214, R105. -/
def value_fn80000002_EDX (v : Snapshot) : Word := compose (fields_fn80000002_EDX v)

/-- R214: `x[EDX] <- Val(t, CPUID_Fn80000002_EDX)`. -/
def exec_fn80000002_EDX (s : State) : Host.Outcome State Fault Refusal := execRow .fn80000002_EDX value_fn80000002_EDX s

/-- R216, `CPUID_Fn80000003_EAX`, ProcNameStr1Eax: Processor Name String Identifier (Bytes [19:16]). -/
def fields_fn80000003_EAX (v : Snapshot) : List Field := [
  inputField 31 24 "ProcNameByte19" (zext (v.name 2 3)),
  inputField 23 16 "ProcNameByte18" (zext (v.name 2 2)),
  inputField 15 8 "ProcNameByte17" (zext (v.name 2 1)),
  inputField 7 0 "ProcNameByte16" (zext (v.name 2 0))]

/-- R216, R105. -/
def value_fn80000003_EAX (v : Snapshot) : Word := compose (fields_fn80000003_EAX v)

/-- R216: `x[EAX] <- Val(t, CPUID_Fn80000003_EAX)`. -/
def exec_fn80000003_EAX (s : State) : Host.Outcome State Fault Refusal := execRow .fn80000003_EAX value_fn80000003_EAX s

/-- R217, `CPUID_Fn80000003_EBX`, ProcNameStr1Ebx: Processor Name String Identifier (Bytes [23:20]). -/
def fields_fn80000003_EBX (v : Snapshot) : List Field := [
  inputField 31 24 "ProcNameByte23" (zext (v.name 2 7)),
  inputField 23 16 "ProcNameByte22" (zext (v.name 2 6)),
  inputField 15 8 "ProcNameByte21" (zext (v.name 2 5)),
  inputField 7 0 "ProcNameByte20" (zext (v.name 2 4))]

/-- R217, R105. -/
def value_fn80000003_EBX (v : Snapshot) : Word := compose (fields_fn80000003_EBX v)

/-- R217: `x[EBX] <- Val(t, CPUID_Fn80000003_EBX)`. -/
def exec_fn80000003_EBX (s : State) : Host.Outcome State Fault Refusal := execRow .fn80000003_EBX value_fn80000003_EBX s

/-- R218, `CPUID_Fn80000003_ECX`, ProcNameStr1Ecx: Processor Name String Identifier (Bytes [27:24]). -/
def fields_fn80000003_ECX (v : Snapshot) : List Field := [
  inputField 31 24 "ProcNameByte27" (zext (v.name 3 3)),
  inputField 23 16 "ProcNameByte26" (zext (v.name 3 2)),
  inputField 15 8 "ProcNameByte25" (zext (v.name 3 1)),
  inputField 7 0 "ProcNameByte24" (zext (v.name 3 0))]

/-- R218, R105. -/
def value_fn80000003_ECX (v : Snapshot) : Word := compose (fields_fn80000003_ECX v)

/-- R218: `x[ECX] <- Val(t, CPUID_Fn80000003_ECX)`. -/
def exec_fn80000003_ECX (s : State) : Host.Outcome State Fault Refusal := execRow .fn80000003_ECX value_fn80000003_ECX s

/-- R219, `CPUID_Fn80000003_EDX`, ProcNameStr1Edx: Processor Name String Identifier (Bytes [31:28]). -/
def fields_fn80000003_EDX (v : Snapshot) : List Field := [
  inputField 31 24 "ProcNameByte31" (zext (v.name 3 7)),
  inputField 23 16 "ProcNameByte30" (zext (v.name 3 6)),
  inputField 15 8 "ProcNameByte29" (zext (v.name 3 5)),
  inputField 7 0 "ProcNameByte28" (zext (v.name 3 4))]

/-- R219, R105. -/
def value_fn80000003_EDX (v : Snapshot) : Word := compose (fields_fn80000003_EDX v)

/-- R219: `x[EDX] <- Val(t, CPUID_Fn80000003_EDX)`. -/
def exec_fn80000003_EDX (s : State) : Host.Outcome State Fault Refusal := execRow .fn80000003_EDX value_fn80000003_EDX s

/-- R221, `CPUID_Fn80000004_EAX`, ProcNameStr2Eax: Processor Name String Identifier (Bytes [35:32]). -/
def fields_fn80000004_EAX (v : Snapshot) : List Field := [
  inputField 31 24 "ProcNameByte35" (zext (v.name 4 3)),
  inputField 23 16 "ProcNameByte34" (zext (v.name 4 2)),
  inputField 15 8 "ProcNameByte33" (zext (v.name 4 1)),
  inputField 7 0 "ProcNameByte32" (zext (v.name 4 0))]

/-- R221, R105. -/
def value_fn80000004_EAX (v : Snapshot) : Word := compose (fields_fn80000004_EAX v)

/-- R221: `x[EAX] <- Val(t, CPUID_Fn80000004_EAX)`. -/
def exec_fn80000004_EAX (s : State) : Host.Outcome State Fault Refusal := execRow .fn80000004_EAX value_fn80000004_EAX s

/-- R222, `CPUID_Fn80000004_EBX`, ProcNameStr2Ebx: Processor Name String Identifier (Bytes [39:36]). -/
def fields_fn80000004_EBX (v : Snapshot) : List Field := [
  inputField 31 24 "ProcNameByte39" (zext (v.name 4 7)),
  inputField 23 16 "ProcNameByte38" (zext (v.name 4 6)),
  inputField 15 8 "ProcNameByte37" (zext (v.name 4 5)),
  inputField 7 0 "ProcNameByte36" (zext (v.name 4 4))]

/-- R222, R105. -/
def value_fn80000004_EBX (v : Snapshot) : Word := compose (fields_fn80000004_EBX v)

/-- R222: `x[EBX] <- Val(t, CPUID_Fn80000004_EBX)`. -/
def exec_fn80000004_EBX (s : State) : Host.Outcome State Fault Refusal := execRow .fn80000004_EBX value_fn80000004_EBX s

/-- R223, `CPUID_Fn80000004_ECX`, ProcNameStr2Ecx: Processor Name String Identifier (Bytes [43:40]). -/
def fields_fn80000004_ECX (v : Snapshot) : List Field := [
  inputField 31 24 "ProcNameByte43" (zext (v.name 5 3)),
  inputField 23 16 "ProcNameByte42" (zext (v.name 5 2)),
  inputField 15 8 "ProcNameByte41" (zext (v.name 5 1)),
  inputField 7 0 "ProcNameByte40" (zext (v.name 5 0))]

/-- R223, R105. -/
def value_fn80000004_ECX (v : Snapshot) : Word := compose (fields_fn80000004_ECX v)

/-- R223: `x[ECX] <- Val(t, CPUID_Fn80000004_ECX)`. -/
def exec_fn80000004_ECX (s : State) : Host.Outcome State Fault Refusal := execRow .fn80000004_ECX value_fn80000004_ECX s

/-- R224, `CPUID_Fn80000004_EDX`, ProcNameStr2Edx: Processor Name String Identifier (Bytes [47:44]). -/
def fields_fn80000004_EDX (v : Snapshot) : List Field := [
  inputField 31 24 "ProcNameByte47" (zext (v.name 5 7)),
  inputField 23 16 "ProcNameByte46" (zext (v.name 5 6)),
  inputField 15 8 "ProcNameByte45" (zext (v.name 5 5)),
  inputField 7 0 "ProcNameByte44" (zext (v.name 5 4))]

/-- R224, R105. -/
def value_fn80000004_EDX (v : Snapshot) : Word := compose (fields_fn80000004_EDX v)

/-- R224: `x[EDX] <- Val(t, CPUID_Fn80000004_EDX)`. -/
def exec_fn80000004_EDX (s : State) : Host.Outcome State Fault Refusal := execRow .fn80000004_EDX value_fn80000004_EDX s

end Sys2Proof.Machine
end

