-- ==== Sys2Proof/Machine/ExtCachePowerSvm.lean ====
section
/-! DEFINITION. The registers of functions 8000_0005h to 8000_000Ah:
TLB and cache, RAS and power, address sizes, SVM (R240 to R262). For each register: its fields, its
value, and its row run alone. -/

namespace Sys2Proof.Machine

/-- R241, `CPUID_Fn80000005_EAX`, L1Tlb2M4M: L1 TLB 2M/4M Identifiers. -/
def fields_fn80000005_EAX (_v : Snapshot) : List Field := [
  fixedField 31 24 "L1DTlb2and4MAssoc" 0xFF#32,
  fixedField 23 16 "L1DTlb2and4MSize" 0x40#32,
  fixedField 15 8 "L1ITlb2and4MAssoc" 0xFF#32,
  fixedField 7 0 "L1ITlb2and4MSize" 0x40#32]

/-- R241, R105. -/
def value_fn80000005_EAX (v : Snapshot) : Word := compose (fields_fn80000005_EAX v)

/-- R241: `x[EAX] <- Val(t, CPUID_Fn80000005_EAX)`. -/
def exec_fn80000005_EAX (s : State) : Host.Outcome State Fault Refusal := execRow .fn80000005_EAX value_fn80000005_EAX s

/-- R242, `CPUID_Fn80000005_EBX`, L1Tlb4K: L1 TLB 4K Identifiers. -/
def fields_fn80000005_EBX (_v : Snapshot) : List Field := [
  fixedField 31 24 "L1DTlb4KAssoc" 0xFF#32,
  fixedField 23 16 "L1DTlb4KSize" 0x40#32,
  fixedField 15 8 "L1ITlb4KAssoc" 0xFF#32,
  fixedField 7 0 "L1ITlb4KSize" 0x40#32]

/-- R242, R105. -/
def value_fn80000005_EBX (v : Snapshot) : Word := compose (fields_fn80000005_EBX v)

/-- R242: `x[EBX] <- Val(t, CPUID_Fn80000005_EBX)`. -/
def exec_fn80000005_EBX (s : State) : Host.Outcome State Fault Refusal := execRow .fn80000005_EBX value_fn80000005_EBX s

/-- R243, `CPUID_Fn80000005_ECX`, L1DcId: L1 Data Cache Identifiers. -/
def fields_fn80000005_ECX (_v : Snapshot) : List Field := [
  fixedField 31 24 "L1DcSize" 0x20#32,
  fixedField 23 16 "L1DcAssoc" 0x8#32,
  fixedField 15 8 "L1DcLinesPerTag" 0x1#32,
  fixedField 7 0 "L1DcLineSize" 0x40#32]

/-- R243, R105. -/
def value_fn80000005_ECX (v : Snapshot) : Word := compose (fields_fn80000005_ECX v)

/-- R243: `x[ECX] <- Val(t, CPUID_Fn80000005_ECX)`. -/
def exec_fn80000005_ECX (s : State) : Host.Outcome State Fault Refusal := execRow .fn80000005_ECX value_fn80000005_ECX s

/-- R244, `CPUID_Fn80000005_EDX`, L1IcId: L1 Instruction Cache Identifiers. -/
def fields_fn80000005_EDX (_v : Snapshot) : List Field := [
  fixedField 31 24 "L1IcSize" 0x40#32,
  fixedField 23 16 "L1IcAssoc" 0x4#32,
  fixedField 15 8 "L1IcLinesPerTag" 0x1#32,
  fixedField 7 0 "L1IcLineSize" 0x40#32]

/-- R244, R105. -/
def value_fn80000005_EDX (v : Snapshot) : Word := compose (fields_fn80000005_EDX v)

/-- R244: `x[EDX] <- Val(t, CPUID_Fn80000005_EDX)`. -/
def exec_fn80000005_EDX (s : State) : Host.Outcome State Fault Refusal := execRow .fn80000005_EDX value_fn80000005_EDX s

/-- R246, `CPUID_Fn80000006_EAX`, L2Tlb2M4M: L2 TLB 2M/4M Identifiers. -/
def fields_fn80000006_EAX (v : Snapshot) : List Field := [
  paramField 31 28 "L2DTlb2and4MAssoc" (zext v.p.l2DTlb2and4MAssoc),
  fixedField 27 16 "L2DTlb2and4MSize" 0x600#32,
  fixedField 15 12 "L2ITlb2and4MAssoc" 0x6#32,
  fixedField 11 0 "L2ITlb2and4MSize" 0x400#32]

/-- R246, R105. -/
def value_fn80000006_EAX (v : Snapshot) : Word := compose (fields_fn80000006_EAX v)

/-- R246: `x[EAX] <- Val(t, CPUID_Fn80000006_EAX)`. -/
def exec_fn80000006_EAX (s : State) : Host.Outcome State Fault Refusal := execRow .fn80000006_EAX value_fn80000006_EAX s

/-- R247, `CPUID_Fn80000006_EBX`, L2Tlb4K: L2 TLB 4K Identifiers. -/
def fields_fn80000006_EBX (v : Snapshot) : List Field := [
  paramField 31 28 "L2DTlb4KAssoc" (zext v.p.l2DTlb4KAssoc),
  fixedField 27 16 "L2DTlb4KSize" 0x600#32,
  fixedField 15 12 "L2ITlb4KAssoc" 0x6#32,
  fixedField 11 0 "L2ITlb4KSize" 0x400#32]

/-- R247, R105. -/
def value_fn80000006_EBX (v : Snapshot) : Word := compose (fields_fn80000006_EBX v)

/-- R247: `x[EBX] <- Val(t, CPUID_Fn80000006_EBX)`. -/
def exec_fn80000006_EBX (s : State) : Host.Outcome State Fault Refusal := execRow .fn80000006_EBX value_fn80000006_EBX s

/-- R248, `CPUID_Fn80000006_ECX`, L2CacheId: L2 Cache Identifiers. -/
def fields_fn80000006_ECX (_v : Snapshot) : List Field := [
  fixedField 31 16 "L2Size" 0x200#32,
  fixedField 15 12 "L2Assoc" 0x6#32,
  fixedField 11 8 "L2LinesPerTag" 0x1#32,
  fixedField 7 0 "L2LineSize" 0x40#32]

/-- R248, R105. -/
def value_fn80000006_ECX (v : Snapshot) : Word := compose (fields_fn80000006_ECX v)

/-- R248: `x[ECX] <- Val(t, CPUID_Fn80000006_ECX)`. -/
def exec_fn80000006_ECX (s : State) : Host.Outcome State Fault Refusal := execRow .fn80000006_ECX value_fn80000006_ECX s

/-- R249, `CPUID_Fn80000006_EDX`, L3CacheId: L3 Cache Identifiers. -/
def fields_fn80000006_EDX (v : Snapshot) : List Field := [
  paramField 31 18 "L3Size" (zext v.p.l3Size),
  reservedField 17 16,
  paramField 15 12 "L3Assoc" (zext v.p.l3Assoc),
  fixedField 11 8 "L3LinesPerTag" 0x1#32,
  fixedField 7 0 "L3LineSize" 0x40#32]

/-- R249, R105. -/
def value_fn80000006_EDX (v : Snapshot) : Word := compose (fields_fn80000006_EDX v)

/-- R249: `x[EDX] <- Val(t, CPUID_Fn80000006_EDX)`. -/
def exec_fn80000006_EDX (s : State) : Host.Outcome State Fault Refusal := execRow .fn80000006_EDX value_fn80000006_EDX s

/-- R251, `CPUID_Fn80000007_EAX`, ProcFeedbackCap: Reserved. -/
def fields_fn80000007_EAX (_v : Snapshot) : List Field := [
  fixedField 31 0 "Reserved" 0x0#32]

/-- R251, R105. -/
def value_fn80000007_EAX (v : Snapshot) : Word := compose (fields_fn80000007_EAX v)

/-- R251: `x[EAX] <- Val(t, CPUID_Fn80000007_EAX)`. -/
def exec_fn80000007_EAX (s : State) : Host.Outcome State Fault Refusal := execRow .fn80000007_EAX value_fn80000007_EAX s

/-- R252, `CPUID_Fn80000007_EBX`, RasCap: RAS Capabilities. -/
def fields_fn80000007_EBX (v : Snapshot) : List Field := [
  reservedField 31 4,
  fixedField 3 3 "ScalableMca" 0x1#32,
  fixedField 2 2 "HWA" 0x0#32,
  paramField 1 1 "SUCCOR" (bit v.p.succor),
  fixedField 0 0 "McaOverflowRecov" 0x1#32]

/-- R252, R105. -/
def value_fn80000007_EBX (v : Snapshot) : Word := compose (fields_fn80000007_EBX v)

/-- R252: `x[EBX] <- Val(t, CPUID_Fn80000007_EBX)`. -/
def exec_fn80000007_EBX (s : State) : Host.Outcome State Fault Refusal := execRow .fn80000007_EBX value_fn80000007_EBX s

/-- R253, `CPUID_Fn80000007_ECX`, ApmInfoEcx: Advanced Power Management Information. -/
def fields_fn80000007_ECX (_v : Snapshot) : List Field := [
  fixedField 31 0 "CmpUnitPwrSampleTimeRatio" 0x0#32]

/-- R253, R105. -/
def value_fn80000007_ECX (v : Snapshot) : Word := compose (fields_fn80000007_ECX v)

/-- R253: `x[ECX] <- Val(t, CPUID_Fn80000007_ECX)`. -/
def exec_fn80000007_ECX (s : State) : Host.Outcome State Fault Refusal := execRow .fn80000007_ECX value_fn80000007_ECX s

/-- R254, `CPUID_Fn80000007_EDX`, ApmInfoEdx: Advanced Power Management Information. -/
def fields_fn80000007_EDX (_v : Snapshot) : List Field := [
  reservedField 31 15,
  fixedField 14 14 "RAPL" 0x1#32,
  fixedField 13 13 "ConnectedStandby" 0x1#32,
  fixedField 12 12 "ApmPwrReporting" 0x0#32,
  fixedField 11 11 "ProcFeedbackInterface" 0x0#32,
  fixedField 10 10 "EffFreqRO" 0x1#32,
  plainField 9 9 "CPB" 0x1#32,
  fixedField 8 8 "TscInvariant" 0x1#32,
  fixedField 7 7 "HwPstate" 0x1#32,
  fixedField 6 6 "OneHundredMHzSteps" 0x0#32,
  reservedField 5 4,
  fixedField 3 3 "TTP" 0x1#32,
  fixedField 2 2 "VID" 0x0#32,
  fixedField 1 1 "FID" 0x0#32,
  fixedField 0 0 "TS" 0x1#32]

/-- R254, R105. -/
def value_fn80000007_EDX (v : Snapshot) : Word := compose (fields_fn80000007_EDX v)

/-- R254: `x[EDX] <- Val(t, CPUID_Fn80000007_EDX)`. -/
def exec_fn80000007_EDX (s : State) : Host.Outcome State Fault Refusal := execRow .fn80000007_EDX value_fn80000007_EDX s

/-- R256, `CPUID_Fn80000008_EAX`, LongModeInfo: Long Mode Address Size Identifiers. -/
def fields_fn80000008_EAX (_v : Snapshot) : List Field := [
  reservedField 31 24,
  fixedField 23 16 "GuestPhysAddrSize" 0x0#32,
  fixedField 15 8 "LinAddrSize" 0x30#32,
  fixedField 7 0 "PhysAddrSize" 0x30#32]

/-- R256, R105. -/
def value_fn80000008_EAX (v : Snapshot) : Word := compose (fields_fn80000008_EAX v)

/-- R256: `x[EAX] <- Val(t, CPUID_Fn80000008_EAX)`. -/
def exec_fn80000008_EAX (s : State) : Host.Outcome State Fault Refusal := execRow .fn80000008_EAX value_fn80000008_EAX s

/-- R257, `CPUID_Fn80000008_EBX`, FeatureExtIdEbx: Extended Feature Extensions ID EBX. -/
def fields_fn80000008_EBX (_v : Snapshot) : List Field := [
  reservedField 31 3,
  fixedField 2 2 "XSaveErPtr" 0x1#32,
  fixedField 1 1 "IRPerf" 0x1#32,
  fixedField 0 0 "CLZERO" 0x1#32]

/-- R257, R105. -/
def value_fn80000008_EBX (v : Snapshot) : Word := compose (fields_fn80000008_EBX v)

/-- R257: `x[EBX] <- Val(t, CPUID_Fn80000008_EBX)`. -/
def exec_fn80000008_EBX (s : State) : Host.Outcome State Fault Refusal := execRow .fn80000008_EBX value_fn80000008_EBX s

/-- R258, `CPUID_Fn80000008_ECX`, SizeId: Size Identifiers. -/
def fields_fn80000008_ECX (v : Snapshot) : List Field := [
  reservedField 31 18,
  fixedField 17 16 "PerfTscSize" 0x0#32,
  paramField 15 12 "ApicIdSize" (zext v.p.apicIdSize),
  reservedField 11 8,
  paramField 7 0 "NC" (zext v.p.nc)]

/-- R258, R105. -/
def value_fn80000008_ECX (v : Snapshot) : Word := compose (fields_fn80000008_ECX v)

/-- R258: `x[ECX] <- Val(t, CPUID_Fn80000008_ECX)`. -/
def exec_fn80000008_ECX (s : State) : Host.Outcome State Fault Refusal := execRow .fn80000008_ECX value_fn80000008_ECX s

/-- R260, `CPUID_Fn8000000A_EAX`, SvmRevFeatIdEax: SVM Revision and Feature Identification. -/
def fields_fn8000000A_EAX (_v : Snapshot) : List Field := [
  reservedField 31 8,
  fixedField 7 0 "SvmRev" 0x1#32]

/-- R260, R105; unlisted when SVM is 0 (R110 (a)). -/
def value_fn8000000A_EAX (v : Snapshot) : Word :=
  if v.svmReported then compose (fields_fn8000000A_EAX v) else v.unlisted .eax

/-- R260: `x[EAX] <- Val(t, CPUID_Fn8000000A_EAX)`. -/
def exec_fn8000000A_EAX (s : State) : Host.Outcome State Fault Refusal := execRow .fn8000000A_EAX value_fn8000000A_EAX s

/-- R261, `CPUID_Fn8000000A_EBX`, SvmRevFeatIdEbx: SVM Revision and Feature Identification. -/
def fields_fn8000000A_EBX (v : Snapshot) : List Field := [
  volatileField 31 0 "NASID" v.inp.nasid]

/-- R261, R105; unlisted when SVM is 0 (R110 (a)). -/
def value_fn8000000A_EBX (v : Snapshot) : Word :=
  if v.svmReported then compose (fields_fn8000000A_EBX v) else v.unlisted .ebx

/-- R261: `x[EBX] <- Val(t, CPUID_Fn8000000A_EBX)`. -/
def exec_fn8000000A_EBX (s : State) : Host.Outcome State Fault Refusal := execRow .fn8000000A_EBX value_fn8000000A_EBX s

/-- R262, `CPUID_Fn8000000A_EDX`, SvmRevFeatIdEdx: SVM Revision and Feature Identification. -/
def fields_fn8000000A_EDX (_v : Snapshot) : List Field := [
  reservedField 31 17,
  fixedField 16 16 "vGIF" 0x1#32,
  fixedField 15 15 "V_VMSAVE_VMLOAD" 0x1#32,
  reservedField 14 14,
  fixedField 13 13 "AVIC" 0x1#32,
  fixedField 12 12 "PauseFilterThreshold" 0x1#32,
  reservedField 11 11,
  fixedField 10 10 "PauseFilter" 0x1#32,
  reservedField 9 8,
  fixedField 7 7 "DecodeAssists" 0x1#32,
  fixedField 6 6 "FlushByAsid" 0x1#32,
  fixedField 5 5 "VmcbClean" 0x1#32,
  fixedField 4 4 "TscRateMsr" 0x1#32,
  fixedField 3 3 "NRIPS" 0x1#32,
  fixedField 2 2 "SVML" 0x1#32,
  fixedField 1 1 "LbrVirt" 0x1#32,
  fixedField 0 0 "NP" 0x1#32]

/-- R262, R105; unlisted when SVM is 0 (R110 (a)). -/
def value_fn8000000A_EDX (v : Snapshot) : Word :=
  if v.svmReported then compose (fields_fn8000000A_EDX v) else v.unlisted .edx

/-- R262: `x[EDX] <- Val(t, CPUID_Fn8000000A_EDX)`. -/
def exec_fn8000000A_EDX (s : State) : Host.Outcome State Fault Refusal := execRow .fn8000000A_EDX value_fn8000000A_EDX s

end Sys2Proof.Machine
end

