-- ==== Sys2Proof/Machine/ExtTlbIbsCache.lean ====
section
/-! DEFINITION. The registers of functions 8000_0019h to 8000_001Dh:
1 GB TLB, performance, IBS, cache properties (R280 to R311). For each register: its fields, its
value, and its row run alone. -/

namespace Sys2Proof.Machine

/-- R281, `CPUID_Fn80000019_EAX`, L1Tlb1G: L1 TLB 1G Identifiers. -/
def fields_fn80000019_EAX (_v : Snapshot) : List Field := [
  fixedField 31 28 "L1DTlb1GAssoc" 0xF#32,
  fixedField 27 16 "L1DTlb1GSize" 0x40#32,
  fixedField 15 12 "L1ITlb1GAssoc" 0xF#32,
  fixedField 11 0 "L1ITlb1GSize" 0x40#32]

/-- R281, R105. -/
def value_fn80000019_EAX (v : Snapshot) : Word := compose (fields_fn80000019_EAX v)

/-- R281: `x[EAX] <- Val(t, CPUID_Fn80000019_EAX)`. -/
def exec_fn80000019_EAX (s : State) : Host.Outcome State Fault Refusal := execRow .fn80000019_EAX value_fn80000019_EAX s

/-- R282, `CPUID_Fn80000019_EBX`, L2Tlb1G: L2 TLB 1G Identifiers. -/
def fields_fn80000019_EBX (_v : Snapshot) : List Field := [
  fixedField 31 28 "L2DTlb1GAssoc" 0x0#32,
  fixedField 27 16 "L2DTlb1GSize" 0x0#32,
  fixedField 15 12 "L2ITlb1GAssoc" 0x0#32,
  fixedField 11 0 "L2ITlb1GSize" 0x0#32]

/-- R282, R105. -/
def value_fn80000019_EBX (v : Snapshot) : Word := compose (fields_fn80000019_EBX v)

/-- R282: `x[EBX] <- Val(t, CPUID_Fn80000019_EBX)`. -/
def exec_fn80000019_EBX (s : State) : Host.Outcome State Fault Refusal := execRow .fn80000019_EBX value_fn80000019_EBX s

/-- R284, `CPUID_Fn8000001A_EAX`, PerfOptId: Performance Optimization Identifiers. -/
def fields_fn8000001A_EAX (_v : Snapshot) : List Field := [
  reservedField 31 3,
  fixedField 2 2 "FP256" 0x0#32,
  fixedField 1 1 "MOVU" 0x1#32,
  fixedField 0 0 "FP128" 0x1#32]

/-- R284, R105. -/
def value_fn8000001A_EAX (v : Snapshot) : Word := compose (fields_fn8000001A_EAX v)

/-- R284: `x[EAX] <- Val(t, CPUID_Fn8000001A_EAX)`. -/
def exec_fn8000001A_EAX (s : State) : Host.Outcome State Fault Refusal := execRow .fn8000001A_EAX value_fn8000001A_EAX s

/-- R286, `CPUID_Fn8000001B_EAX`, IbsIdEax: Instruction Based Sampling Identifiers. -/
def fields_fn8000001B_EAX (_v : Snapshot) : List Field := [
  reservedField 31 11,
  fixedField 10 10 "IbsOpData4" 0x0#32,
  fixedField 9 9 "IbsFetchCtlExtd" 0x1#32,
  fixedField 8 8 "OpBrnFuse" 0x1#32,
  fixedField 7 7 "RipInvalidChk" 0x1#32,
  fixedField 6 6 "OpCntExt" 0x1#32,
  fixedField 5 5 "BrnTrgt" 0x1#32,
  fixedField 4 4 "OpCnt" 0x1#32,
  fixedField 3 3 "RdWrOpCnt" 0x1#32,
  fixedField 2 2 "OpSam" 0x1#32,
  fixedField 1 1 "FetchSam" 0x1#32,
  fixedField 0 0 "IBSFFV" 0x1#32]

/-- R286, R105. -/
def value_fn8000001B_EAX (v : Snapshot) : Word := compose (fields_fn8000001B_EAX v)

/-- R286: `x[EAX] <- Val(t, CPUID_Fn8000001B_EAX)`. -/
def exec_fn8000001B_EAX (s : State) : Host.Outcome State Fault Refusal := execRow .fn8000001B_EAX value_fn8000001B_EAX s

/-- R292, `CPUID_Fn8000001D_EAX_x00`, CachePropEax0: Cache Properties (DC). -/
def fields_fn8000001D_EAX_x00 (v : Snapshot) : List Field := [
  reservedField 31 26,
  paramField 25 14 "NumSharingCache" (zext (v.p.dcSharing v.t)),
  reservedField 13 10,
  fixedField 9 9 "FullyAssociative" 0x0#32,
  fixedField 8 8 "SelfInitialization" 0x1#32,
  fixedField 7 5 "CacheLevel" 0x1#32,
  fixedField 4 0 "CacheType" 0x1#32]

/-- R292, R105; unlisted when TopologyExtensions is 0 (R110 (b)). -/
def value_fn8000001D_EAX_x00 (v : Snapshot) : Word :=
  if v.topologyReported then compose (fields_fn8000001D_EAX_x00 v) else v.unlisted .eax

/-- R292: `x[EAX] <- Val(t, CPUID_Fn8000001D_EAX_x00)`. -/
def exec_fn8000001D_EAX_x00 (s : State) : Host.Outcome State Fault Refusal := execRow .fn8000001D_EAX_x00 value_fn8000001D_EAX_x00 s

/-- R293, `CPUID_Fn8000001D_EAX_x01`, CachePropEax1: Cache Properties (IC). -/
def fields_fn8000001D_EAX_x01 (v : Snapshot) : List Field := [
  reservedField 31 26,
  paramField 25 14 "NumSharingCache" (zext v.tp.numSharingCacheIC),
  reservedField 13 10,
  fixedField 9 9 "FullyAssociative" 0x0#32,
  fixedField 8 8 "SelfInitialization" 0x1#32,
  fixedField 7 5 "CacheLevel" 0x1#32,
  fixedField 4 0 "CacheType" 0x2#32]

/-- R293, R105; unlisted when TopologyExtensions is 0 (R110 (b)). -/
def value_fn8000001D_EAX_x01 (v : Snapshot) : Word :=
  if v.topologyReported then compose (fields_fn8000001D_EAX_x01 v) else v.unlisted .eax

/-- R293: `x[EAX] <- Val(t, CPUID_Fn8000001D_EAX_x01)`. -/
def exec_fn8000001D_EAX_x01 (s : State) : Host.Outcome State Fault Refusal := execRow .fn8000001D_EAX_x01 value_fn8000001D_EAX_x01 s

/-- R294, `CPUID_Fn8000001D_EAX_x02`, CachePropEax2: Cache Properties (L2). -/
def fields_fn8000001D_EAX_x02 (v : Snapshot) : List Field := [
  reservedField 31 26,
  paramField 25 14 "NumSharingCache" (zext v.tp.numSharingCacheL2),
  reservedField 13 10,
  fixedField 9 9 "FullyAssociative" 0x0#32,
  fixedField 8 8 "SelfInitialization" 0x1#32,
  fixedField 7 5 "CacheLevel" 0x2#32,
  fixedField 4 0 "CacheType" 0x3#32]

/-- R294, R105; unlisted when TopologyExtensions is 0 (R110 (b)). -/
def value_fn8000001D_EAX_x02 (v : Snapshot) : Word :=
  if v.topologyReported then compose (fields_fn8000001D_EAX_x02 v) else v.unlisted .eax

/-- R294: `x[EAX] <- Val(t, CPUID_Fn8000001D_EAX_x02)`. -/
def exec_fn8000001D_EAX_x02 (s : State) : Host.Outcome State Fault Refusal := execRow .fn8000001D_EAX_x02 value_fn8000001D_EAX_x02 s

/-- R295, `CPUID_Fn8000001D_EAX_x03`, CachePropEax3: Cache Properties (L3). -/
def fields_fn8000001D_EAX_x03 (v : Snapshot) : List Field := [
  reservedField 31 26,
  paramField 25 14 "NumSharingCache" (zext v.tp.numSharingCacheL3),
  reservedField 13 10,
  fixedField 9 9 "FullyAssociative" 0x0#32,
  fixedField 8 8 "SelfInitialization" 0x1#32,
  fixedField 7 5 "CacheLevel" 0x3#32,
  fixedField 4 0 "CacheType" 0x3#32]

/-- R295, R105; unlisted when TopologyExtensions is 0 (R110 (b)). -/
def value_fn8000001D_EAX_x03 (v : Snapshot) : Word :=
  if v.topologyReported then compose (fields_fn8000001D_EAX_x03 v) else v.unlisted .eax

/-- R295: `x[EAX] <- Val(t, CPUID_Fn8000001D_EAX_x03)`. -/
def exec_fn8000001D_EAX_x03 (s : State) : Host.Outcome State Fault Refusal := execRow .fn8000001D_EAX_x03 value_fn8000001D_EAX_x03 s

/-- R296, `CPUID_Fn8000001D_EAX_x04`, CachePropEax4: Cache Properties Null. -/
def fields_fn8000001D_EAX_x04 (_v : Snapshot) : List Field := [
  reservedField 31 5,
  fixedField 4 0 "CacheType" 0x0#32]

/-- R296, R105; unlisted when TopologyExtensions is 0 (R110 (b)). -/
def value_fn8000001D_EAX_x04 (v : Snapshot) : Word :=
  if v.topologyReported then compose (fields_fn8000001D_EAX_x04 v) else v.unlisted .eax

/-- R296: `x[EAX] <- Val(t, CPUID_Fn8000001D_EAX_x04)`. -/
def exec_fn8000001D_EAX_x04 (s : State) : Host.Outcome State Fault Refusal := execRow .fn8000001D_EAX_x04 value_fn8000001D_EAX_x04 s

/-- R297, `CPUID_Fn8000001D_EBX_x00`, CachePropEbx0: Cache Properties (DC). -/
def fields_fn8000001D_EBX_x00 (_v : Snapshot) : List Field := [
  fixedField 31 22 "CacheNumWays" 0x7#32,
  fixedField 21 12 "CachePhysPartitions" 0x0#32,
  fixedField 11 0 "CacheLineSize" 0x3F#32]

/-- R297, R105; unlisted when TopologyExtensions is 0 (R110 (b)). -/
def value_fn8000001D_EBX_x00 (v : Snapshot) : Word :=
  if v.topologyReported then compose (fields_fn8000001D_EBX_x00 v) else v.unlisted .ebx

/-- R297: `x[EBX] <- Val(t, CPUID_Fn8000001D_EBX_x00)`. -/
def exec_fn8000001D_EBX_x00 (s : State) : Host.Outcome State Fault Refusal := execRow .fn8000001D_EBX_x00 value_fn8000001D_EBX_x00 s

/-- R298, `CPUID_Fn8000001D_EBX_x01`, CachePropEbx1: Cache Properties (IC). -/
def fields_fn8000001D_EBX_x01 (_v : Snapshot) : List Field := [
  fixedField 31 22 "CacheNumWays" 0x3#32,
  fixedField 21 12 "CachePhysPartitions" 0x0#32,
  fixedField 11 0 "CacheLineSize" 0x3F#32]

/-- R298, R105; unlisted when TopologyExtensions is 0 (R110 (b)). -/
def value_fn8000001D_EBX_x01 (v : Snapshot) : Word :=
  if v.topologyReported then compose (fields_fn8000001D_EBX_x01 v) else v.unlisted .ebx

/-- R298: `x[EBX] <- Val(t, CPUID_Fn8000001D_EBX_x01)`. -/
def exec_fn8000001D_EBX_x01 (s : State) : Host.Outcome State Fault Refusal := execRow .fn8000001D_EBX_x01 value_fn8000001D_EBX_x01 s

/-- R299, `CPUID_Fn8000001D_EBX_x02`, CachePropEbx2: Cache Properties (L2). -/
def fields_fn8000001D_EBX_x02 (_v : Snapshot) : List Field := [
  fixedField 31 22 "CacheNumWays" 0x7#32,
  fixedField 21 12 "CachePhysPartitions" 0x0#32,
  fixedField 11 0 "CacheLineSize" 0x3F#32]

/-- R299, R105; unlisted when TopologyExtensions is 0 (R110 (b)). -/
def value_fn8000001D_EBX_x02 (v : Snapshot) : Word :=
  if v.topologyReported then compose (fields_fn8000001D_EBX_x02 v) else v.unlisted .ebx

/-- R299: `x[EBX] <- Val(t, CPUID_Fn8000001D_EBX_x02)`. -/
def exec_fn8000001D_EBX_x02 (s : State) : Host.Outcome State Fault Refusal := execRow .fn8000001D_EBX_x02 value_fn8000001D_EBX_x02 s

/-- R300, `CPUID_Fn8000001D_EBX_x03`, CachePropEbx3: Cache Properties (L3). -/
def fields_fn8000001D_EBX_x03 (_v : Snapshot) : List Field := [
  fixedField 31 22 "CacheNumWays" 0xF#32,
  fixedField 21 12 "CachePhysPartitions" 0x0#32,
  fixedField 11 0 "CacheLineSize" 0x3F#32]

/-- R300, R105; unlisted when TopologyExtensions is 0 (R110 (b)). -/
def value_fn8000001D_EBX_x03 (v : Snapshot) : Word :=
  if v.topologyReported then compose (fields_fn8000001D_EBX_x03 v) else v.unlisted .ebx

/-- R300: `x[EBX] <- Val(t, CPUID_Fn8000001D_EBX_x03)`. -/
def exec_fn8000001D_EBX_x03 (s : State) : Host.Outcome State Fault Refusal := execRow .fn8000001D_EBX_x03 value_fn8000001D_EBX_x03 s

/-- R301, `CPUID_Fn8000001D_EBX_x04`, CachePropEbx4: Cache Properties Null. -/
def fields_fn8000001D_EBX_x04 (_v : Snapshot) : List Field := [
  fixedField 31 0 "Reserved" 0x0#32]

/-- R301, R105; unlisted when TopologyExtensions is 0 (R110 (b)). -/
def value_fn8000001D_EBX_x04 (v : Snapshot) : Word :=
  if v.topologyReported then compose (fields_fn8000001D_EBX_x04 v) else v.unlisted .ebx

/-- R301: `x[EBX] <- Val(t, CPUID_Fn8000001D_EBX_x04)`. -/
def exec_fn8000001D_EBX_x04 (s : State) : Host.Outcome State Fault Refusal := execRow .fn8000001D_EBX_x04 value_fn8000001D_EBX_x04 s

/-- R302, `CPUID_Fn8000001D_ECX_x00`, CachePropEcx0: Cache Properties (DC). -/
def fields_fn8000001D_ECX_x00 (_v : Snapshot) : List Field := [
  fixedField 31 0 "CacheNumSets" 0x3F#32]

/-- R302, R105; unlisted when TopologyExtensions is 0 (R110 (b)). -/
def value_fn8000001D_ECX_x00 (v : Snapshot) : Word :=
  if v.topologyReported then compose (fields_fn8000001D_ECX_x00 v) else v.unlisted .ecx

/-- R302: `x[ECX] <- Val(t, CPUID_Fn8000001D_ECX_x00)`. -/
def exec_fn8000001D_ECX_x00 (s : State) : Host.Outcome State Fault Refusal := execRow .fn8000001D_ECX_x00 value_fn8000001D_ECX_x00 s

/-- R303, `CPUID_Fn8000001D_ECX_x01`, CachePropEcx1: Cache Properties (IC). -/
def fields_fn8000001D_ECX_x01 (_v : Snapshot) : List Field := [
  fixedField 31 0 "CacheNumSets" 0xFF#32]

/-- R303, R105; unlisted when TopologyExtensions is 0 (R110 (b)). -/
def value_fn8000001D_ECX_x01 (v : Snapshot) : Word :=
  if v.topologyReported then compose (fields_fn8000001D_ECX_x01 v) else v.unlisted .ecx

/-- R303: `x[ECX] <- Val(t, CPUID_Fn8000001D_ECX_x01)`. -/
def exec_fn8000001D_ECX_x01 (s : State) : Host.Outcome State Fault Refusal := execRow .fn8000001D_ECX_x01 value_fn8000001D_ECX_x01 s

/-- R304, `CPUID_Fn8000001D_ECX_x02`, CachePropEcx2: Cache Properties (L2). -/
def fields_fn8000001D_ECX_x02 (_v : Snapshot) : List Field := [
  fixedField 31 0 "CacheNumSets" 0x3FF#32]

/-- R304, R105; unlisted when TopologyExtensions is 0 (R110 (b)). -/
def value_fn8000001D_ECX_x02 (v : Snapshot) : Word :=
  if v.topologyReported then compose (fields_fn8000001D_ECX_x02 v) else v.unlisted .ecx

/-- R304: `x[ECX] <- Val(t, CPUID_Fn8000001D_ECX_x02)`. -/
def exec_fn8000001D_ECX_x02 (s : State) : Host.Outcome State Fault Refusal := execRow .fn8000001D_ECX_x02 value_fn8000001D_ECX_x02 s

/-- R305, `CPUID_Fn8000001D_ECX_x03`, CachePropEcx3: Cache Properties (L3). -/
def fields_fn8000001D_ECX_x03 (v : Snapshot) : List Field := [
  paramField 31 0 "CacheNumSets" v.p.l3NumSets]

/-- R305, R105; unlisted when TopologyExtensions is 0 (R110 (b)). -/
def value_fn8000001D_ECX_x03 (v : Snapshot) : Word :=
  if v.topologyReported then compose (fields_fn8000001D_ECX_x03 v) else v.unlisted .ecx

/-- R305: `x[ECX] <- Val(t, CPUID_Fn8000001D_ECX_x03)`. -/
def exec_fn8000001D_ECX_x03 (s : State) : Host.Outcome State Fault Refusal := execRow .fn8000001D_ECX_x03 value_fn8000001D_ECX_x03 s

/-- R306, `CPUID_Fn8000001D_ECX_x04`, CachePropEcx4: Cache Properties Null. -/
def fields_fn8000001D_ECX_x04 (_v : Snapshot) : List Field := [
  fixedField 31 0 "CacheNumSets" 0x0#32]

/-- R306, R105; unlisted when TopologyExtensions is 0 (R110 (b)). -/
def value_fn8000001D_ECX_x04 (v : Snapshot) : Word :=
  if v.topologyReported then compose (fields_fn8000001D_ECX_x04 v) else v.unlisted .ecx

/-- R306: `x[ECX] <- Val(t, CPUID_Fn8000001D_ECX_x04)`. -/
def exec_fn8000001D_ECX_x04 (s : State) : Host.Outcome State Fault Refusal := execRow .fn8000001D_ECX_x04 value_fn8000001D_ECX_x04 s

/-- R307, `CPUID_Fn8000001D_EDX_x00`, CachePropEdx0: Cache Properties (DC). -/
def fields_fn8000001D_EDX_x00 (_v : Snapshot) : List Field := [
  reservedField 31 2,
  fixedField 1 1 "CacheInclusive" 0x0#32,
  fixedField 0 0 "WBINVD" 0x0#32]

/-- R307, R105; unlisted when TopologyExtensions is 0 (R110 (b)). -/
def value_fn8000001D_EDX_x00 (v : Snapshot) : Word :=
  if v.topologyReported then compose (fields_fn8000001D_EDX_x00 v) else v.unlisted .edx

/-- R307: `x[EDX] <- Val(t, CPUID_Fn8000001D_EDX_x00)`. -/
def exec_fn8000001D_EDX_x00 (s : State) : Host.Outcome State Fault Refusal := execRow .fn8000001D_EDX_x00 value_fn8000001D_EDX_x00 s

/-- R308, `CPUID_Fn8000001D_EDX_x01`, CachePropEdx1: Cache Properties (IC). -/
def fields_fn8000001D_EDX_x01 (_v : Snapshot) : List Field := [
  reservedField 31 2,
  fixedField 1 1 "CacheInclusive" 0x0#32,
  fixedField 0 0 "WBINVD" 0x0#32]

/-- R308, R105; unlisted when TopologyExtensions is 0 (R110 (b)). -/
def value_fn8000001D_EDX_x01 (v : Snapshot) : Word :=
  if v.topologyReported then compose (fields_fn8000001D_EDX_x01 v) else v.unlisted .edx

/-- R308: `x[EDX] <- Val(t, CPUID_Fn8000001D_EDX_x01)`. -/
def exec_fn8000001D_EDX_x01 (s : State) : Host.Outcome State Fault Refusal := execRow .fn8000001D_EDX_x01 value_fn8000001D_EDX_x01 s

/-- R309, `CPUID_Fn8000001D_EDX_x02`, CachePropEdx2: Cache Properties (L2). -/
def fields_fn8000001D_EDX_x02 (_v : Snapshot) : List Field := [
  reservedField 31 2,
  fixedField 1 1 "CacheInclusive" 0x1#32,
  fixedField 0 0 "WBINVD" 0x0#32]

/-- R309, R105; unlisted when TopologyExtensions is 0 (R110 (b)). -/
def value_fn8000001D_EDX_x02 (v : Snapshot) : Word :=
  if v.topologyReported then compose (fields_fn8000001D_EDX_x02 v) else v.unlisted .edx

/-- R309: `x[EDX] <- Val(t, CPUID_Fn8000001D_EDX_x02)`. -/
def exec_fn8000001D_EDX_x02 (s : State) : Host.Outcome State Fault Refusal := execRow .fn8000001D_EDX_x02 value_fn8000001D_EDX_x02 s

/-- R310, `CPUID_Fn8000001D_EDX_x03`, CachePropEdx3: Cache Properties (L3). -/
def fields_fn8000001D_EDX_x03 (_v : Snapshot) : List Field := [
  reservedField 31 2,
  fixedField 1 1 "CacheInclusive" 0x0#32,
  fixedField 0 0 "WBINVD" 0x1#32]

/-- R310, R105; unlisted when TopologyExtensions is 0 (R110 (b)). -/
def value_fn8000001D_EDX_x03 (v : Snapshot) : Word :=
  if v.topologyReported then compose (fields_fn8000001D_EDX_x03 v) else v.unlisted .edx

/-- R310: `x[EDX] <- Val(t, CPUID_Fn8000001D_EDX_x03)`. -/
def exec_fn8000001D_EDX_x03 (s : State) : Host.Outcome State Fault Refusal := execRow .fn8000001D_EDX_x03 value_fn8000001D_EDX_x03 s

/-- R311, `CPUID_Fn8000001D_EDX_x04`, CachePropEdx4: Cache Properties Null. -/
def fields_fn8000001D_EDX_x04 (_v : Snapshot) : List Field := [
  fixedField 31 0 "Reserved" 0x0#32]

/-- R311, R105; unlisted when TopologyExtensions is 0 (R110 (b)). -/
def value_fn8000001D_EDX_x04 (v : Snapshot) : Word :=
  if v.topologyReported then compose (fields_fn8000001D_EDX_x04 v) else v.unlisted .edx

/-- R311: `x[EDX] <- Val(t, CPUID_Fn8000001D_EDX_x04)`. -/
def exec_fn8000001D_EDX_x04 (s : State) : Host.Outcome State Fault Refusal := execRow .fn8000001D_EDX_x04 value_fn8000001D_EDX_x04 s

end Sys2Proof.Machine
end

