-- ==== Sys2Proof/Machine/ExtTopologySev.lean ====
section
/-! DEFINITION. The registers of functions 8000_001Eh and 8000_001Fh:
topology, encrypted memory (R312 to R320). For each register: its fields, its
value, and its row run alone. -/

namespace Sys2Proof.Machine

/-- R313, `CPUID_Fn8000001E_EAX`, ExtApicId: Extended APIC ID. -/
def fields_fn8000001E_EAX (v : Snapshot) : List Field := [
  inputField 31 0 "ExtendedApicId" (if v.inp.apicEn then zext v.inp.apicId else 0#32)]

/-- R313, R105; unlisted when TopologyExtensions is 0 (R110 (b)). -/
def value_fn8000001E_EAX (v : Snapshot) : Word :=
  if v.topologyReported then compose (fields_fn8000001E_EAX v) else v.unlisted .eax

/-- R313: `x[EAX] <- Val(t, CPUID_Fn8000001E_EAX)`. -/
def exec_fn8000001E_EAX (s : State) : Host.Outcome State Fault Refusal := execRow .fn8000001E_EAX value_fn8000001E_EAX s

/-- R314, `CPUID_Fn8000001E_EBX`, CoreId: Core Identifiers. -/
def fields_fn8000001E_EBX (v : Snapshot) : List Field := [
  reservedField 31 16,
  paramField 15 8 "ThreadsPerCore" (zext v.p.threadsPerCore),
  paramField 7 0 "CoreId" (zext v.tp.coreId)]

/-- R314, R105; unlisted when TopologyExtensions is 0 (R110 (b)). -/
def value_fn8000001E_EBX (v : Snapshot) : Word :=
  if v.topologyReported then compose (fields_fn8000001E_EBX v) else v.unlisted .ebx

/-- R314: `x[EBX] <- Val(t, CPUID_Fn8000001E_EBX)`. -/
def exec_fn8000001E_EBX (s : State) : Host.Outcome State Fault Refusal := execRow .fn8000001E_EBX value_fn8000001E_EBX s

/-- R315, `CPUID_Fn8000001E_ECX`, NodeId: Node Identifiers. -/
def fields_fn8000001E_ECX (v : Snapshot) : List Field := [
  reservedField 31 11,
  paramField 10 8 "NodesPerProcessor" (zext v.p.nodesPerProcessor),
  paramField 7 0 "NodeId" (zext v.tp.nodeId)]

/-- R315, R105; unlisted when TopologyExtensions is 0 (R110 (b)). -/
def value_fn8000001E_ECX (v : Snapshot) : Word :=
  if v.topologyReported then compose (fields_fn8000001E_ECX v) else v.unlisted .ecx

/-- R315: `x[ECX] <- Val(t, CPUID_Fn8000001E_ECX)`. -/
def exec_fn8000001E_ECX (s : State) : Host.Outcome State Fault Refusal := execRow .fn8000001E_ECX value_fn8000001E_ECX s

/-- R317, `CPUID_Fn8000001F_EAX`, SecureEncryptionEax: AMD Secure Encryption EAX. -/
def fields_fn8000001F_EAX (_v : Snapshot) : List Field := [
  reservedField 31 4,
  fixedField 3 3 "SevEs" 0x1#32,
  fixedField 2 2 "VmPgFlush" 0x1#32,
  fixedField 1 1 "SEV" 0x1#32,
  fixedField 0 0 "SME" 0x1#32]

/-- R317, R105. -/
def value_fn8000001F_EAX (v : Snapshot) : Word := compose (fields_fn8000001F_EAX v)

/-- R317: `x[EAX] <- Val(t, CPUID_Fn8000001F_EAX)`. -/
def exec_fn8000001F_EAX (s : State) : Host.Outcome State Fault Refusal := execRow .fn8000001F_EAX value_fn8000001F_EAX s

/-- R318, `CPUID_Fn8000001F_EBX`, SecureEncryptionEbx: AMD Secure Encryption EBX. -/
def fields_fn8000001F_EBX (_v : Snapshot) : List Field := [
  reservedField 31 12,
  plainField 11 6 "MemEncryptPhysAddWidth" 0x5#32,
  plainField 5 0 "CBit" 0x2F#32]

/-- R318, R105. -/
def value_fn8000001F_EBX (v : Snapshot) : Word := compose (fields_fn8000001F_EBX v)

/-- R318: `x[EBX] <- Val(t, CPUID_Fn8000001F_EBX)`. -/
def exec_fn8000001F_EBX (s : State) : Host.Outcome State Fault Refusal := execRow .fn8000001F_EBX value_fn8000001F_EBX s

/-- R319, `CPUID_Fn8000001F_ECX`, SecureEncryptionEcx: AMD Secure Encryption ECX. -/
def fields_fn8000001F_ECX (_v : Snapshot) : List Field := [
  plainField 31 0 "NumEncryptedGuests" 0xF#32]

/-- R319, R105. -/
def value_fn8000001F_ECX (v : Snapshot) : Word := compose (fields_fn8000001F_ECX v)

/-- R319: `x[ECX] <- Val(t, CPUID_Fn8000001F_ECX)`. -/
def exec_fn8000001F_ECX (s : State) : Host.Outcome State Fault Refusal := execRow .fn8000001F_ECX value_fn8000001F_ECX s

/-- R320, `CPUID_Fn8000001F_EDX`, SecureEncryptionEdx: Minimum ASID. -/
def fields_fn8000001F_EDX (v : Snapshot) : List Field := [
  paramField 31 0 "MinimumSEVASID" v.p.minimumSevAsid]

/-- R320, R105. -/
def value_fn8000001F_EDX (v : Snapshot) : Word := compose (fields_fn8000001F_EDX v)

/-- R320: `x[EDX] <- Val(t, CPUID_Fn8000001F_EDX)`. -/
def exec_fn8000001F_EDX (s : State) : Host.Outcome State Fault Refusal := execRow .fn8000001F_EDX value_fn8000001F_EDX s

end Sys2Proof.Machine
end

