-- ==== Sys2Proof/Machine/Flags.lean ====
section
/-! DEFINITION. rFLAGS. The spec names no flag that an instruction computes: `CPUID` reads none and writes none (R23, D4). -/

namespace Sys2Proof.Machine

/-- rFLAGS after `CPUID`: what it was before (R23, R100, D4). -/
def flagsAfterCpuid (rflags : QWord) : QWord := rflags

/-- EFLAGS.ID, bit 21, the software test for the presence of `CPUID` (R23). -/
def flagId (rflags : QWord) : Bool := rflags.getLsbD 21

end Sys2Proof.Machine
end

