-- ==== Sys2Proof/Machine/StdIdentity.lean ====
section
/-! DEFINITION. The registers of functions 0000_0000h and 0000_0001h:
vendor, family, model, stepping, features (R130 to R139). For each register: its fields, its
value, and its row run alone. -/

namespace Sys2Proof.Machine

/-- R131, `CPUID_Fn00000000_EAX`, LargFuncNum: Processor Vendor and Largest Standard Function Number. -/
def fields_fn00000000_EAX (_v : Snapshot) : List Field := [
  fixedField 31 0 "LFuncStd" 0xD#32]

/-- R131, R105. -/
def value_fn00000000_EAX (v : Snapshot) : Word := compose (fields_fn00000000_EAX v)

/-- R131: `x[EAX] <- Val(t, CPUID_Fn00000000_EAX)`. -/
def exec_fn00000000_EAX (s : State) : Host.Outcome State Fault Refusal := execRow .fn00000000_EAX value_fn00000000_EAX s

/-- R132, `CPUID_Fn00000000_EBX`, ProcVendEbx: Processor Vendor (ASCII Bytes [3:0]). -/
def fields_fn00000000_EBX (_v : Snapshot) : List Field := [
  fixedField 31 0 "Vendor" 0x68747541#32]

/-- R132, R105. -/
def value_fn00000000_EBX (v : Snapshot) : Word := compose (fields_fn00000000_EBX v)

/-- R132: `x[EBX] <- Val(t, CPUID_Fn00000000_EBX)`. -/
def exec_fn00000000_EBX (s : State) : Host.Outcome State Fault Refusal := execRow .fn00000000_EBX value_fn00000000_EBX s

/-- R133, `CPUID_Fn00000000_ECX`, ProcVendEcx: Processor Vendor (ASCII Bytes [11:8]). -/
def fields_fn00000000_ECX (_v : Snapshot) : List Field := [
  fixedField 31 0 "Vendor" 0x444D4163#32]

/-- R133, R105. -/
def value_fn00000000_ECX (v : Snapshot) : Word := compose (fields_fn00000000_ECX v)

/-- R133: `x[ECX] <- Val(t, CPUID_Fn00000000_ECX)`. -/
def exec_fn00000000_ECX (s : State) : Host.Outcome State Fault Refusal := execRow .fn00000000_ECX value_fn00000000_ECX s

/-- R134, `CPUID_Fn00000000_EDX`, ProcVendEdx: Processor Vendor (ASCII Bytes [7:4]). -/
def fields_fn00000000_EDX (_v : Snapshot) : List Field := [
  fixedField 31 0 "Vendor" 0x69746E65#32]

/-- R134, R105. -/
def value_fn00000000_EDX (v : Snapshot) : Word := compose (fields_fn00000000_EDX v)

/-- R134: `x[EDX] <- Val(t, CPUID_Fn00000000_EDX)`. -/
def exec_fn00000000_EDX (s : State) : Host.Outcome State Fault Refusal := execRow .fn00000000_EDX value_fn00000000_EDX s

/-- R136, `CPUID_Fn00000001_EAX`, FamModStep: Family, Model, Stepping Identifiers. -/
def fields_fn00000001_EAX (v : Snapshot) : List Field := [
  reservedField 31 28,
  plainField 27 20 "ExtFamily" 0x8#32,
  plainField 19 16 "ExtModel" 0x0#32,
  reservedField 15 12,
  plainField 11 8 "BaseFamily" 0xF#32,
  paramField 7 4 "BaseModel" (zext v.p.baseModel),
  plainField 3 0 "Stepping" 0x2#32]

/-- R136, R105. -/
def value_fn00000001_EAX (v : Snapshot) : Word := compose (fields_fn00000001_EAX v)

/-- R136: `x[EAX] <- Val(t, CPUID_Fn00000001_EAX)`. -/
def exec_fn00000001_EAX (s : State) : Host.Outcome State Fault Refusal := execRow .fn00000001_EAX value_fn00000001_EAX s

/-- R137, `CPUID_Fn00000001_EBX`, FeatureIdEbx: LocalApicId, LogicalProcessorCount, CLFlush. -/
def fields_fn00000001_EBX (v : Snapshot) : List Field := [
  paramField 31 24 "LocalApicId" (zext v.tp.localApicId),
  paramField 23 16 "LogicalProcessorCount" (zext (v.p.nc + 1#8)),
  fixedField 15 8 "CLFlush" 0x8#32,
  reservedField 7 0]

/-- R137, R105. -/
def value_fn00000001_EBX (v : Snapshot) : Word := compose (fields_fn00000001_EBX v)

/-- R137: `x[EBX] <- Val(t, CPUID_Fn00000001_EBX)`. -/
def exec_fn00000001_EBX (s : State) : Host.Outcome State Fault Refusal := execRow .fn00000001_EBX value_fn00000001_EBX s

/-- R138, `CPUID_Fn00000001_ECX`, FeatureIdEcx: Feature Identifiers. -/
def fields_fn00000001_ECX (v : Snapshot) : List Field := [
  fixedField 31 31 "Reserved" 0x0#32,
  fixedField 30 30 "RDRAND" 0x1#32,
  fixedField 29 29 "F16C" 0x1#32,
  fixedField 28 28 "AVX" 0x1#32,
  inputField 27 27 "OSXSAVE" (bit v.inp.osxsave),
  fixedField 26 26 "XSAVE" 0x1#32,
  paramField 25 25 "AES" (bit v.p.aes),
  reservedField 24 24,
  fixedField 23 23 "POPCNT" 0x1#32,
  fixedField 22 22 "MOVBE" 0x1#32,
  fixedField 21 21 "X2APIC" 0x0#32,
  fixedField 20 20 "SSE42" 0x1#32,
  fixedField 19 19 "SSE41" 0x1#32,
  reservedField 18 18,
  fixedField 17 17 "PCID" 0x0#32,
  reservedField 16 14,
  fixedField 13 13 "CMPXCHG16B" 0x1#32,
  fixedField 12 12 "FMA" 0x1#32,
  reservedField 11 10,
  fixedField 9 9 "SSSE3" 0x1#32,
  reservedField 8 4,
  inputField 3 3 "Monitor" (bit (!v.inp.monMwaitDis)),
  reservedField 2 2,
  paramField 1 1 "PCLMULQDQ" (bit v.p.pclmulqdq),
  fixedField 0 0 "SSE3" 0x1#32]

/-- R138, R105, and the override of R109. -/
def value_fn00000001_ECX (v : Snapshot) : Word := overridden v.ov.featureIdEcx (compose (fields_fn00000001_ECX v))

/-- R138: `x[ECX] <- Val(t, CPUID_Fn00000001_ECX)`. -/
def exec_fn00000001_ECX (s : State) : Host.Outcome State Fault Refusal := execRow .fn00000001_ECX value_fn00000001_ECX s

/-- R139, `CPUID_Fn00000001_EDX`, FeatureIdEdx: Feature Identifiers. -/
def fields_fn00000001_EDX (v : Snapshot) : List Field := [
  reservedField 31 29,
  paramField 28 28 "HTT" (bit (v.p.nc != 0#8)),
  reservedField 27 27,
  fixedField 26 26 "SSE2" 0x1#32,
  fixedField 25 25 "SSE" 0x1#32,
  fixedField 24 24 "FXSR" 0x1#32,
  fixedField 23 23 "MMX" 0x1#32,
  reservedField 22 20,
  fixedField 19 19 "CLFSH" 0x1#32,
  reservedField 18 18,
  fixedField 17 17 "PSE36" 0x1#32,
  fixedField 16 16 "PAT" 0x1#32,
  fixedField 15 15 "CMOV" 0x1#32,
  fixedField 14 14 "MCA" 0x1#32,
  fixedField 13 13 "PGE" 0x1#32,
  fixedField 12 12 "MTRR" 0x1#32,
  fixedField 11 11 "SysEnterSysExit" 0x1#32,
  reservedField 10 10,
  inputField 9 9 "APIC" (bit v.inp.apicEn),
  fixedField 8 8 "CMPXCHG8B" 0x1#32,
  fixedField 7 7 "MCE" 0x1#32,
  fixedField 6 6 "PAE" 0x1#32,
  fixedField 5 5 "MSR" 0x1#32,
  fixedField 4 4 "TSC" 0x1#32,
  fixedField 3 3 "PSE" 0x1#32,
  fixedField 2 2 "DE" 0x1#32,
  fixedField 1 1 "VME" 0x1#32,
  fixedField 0 0 "FPU" 0x1#32]

/-- R139, R105, and the override of R109. -/
def value_fn00000001_EDX (v : Snapshot) : Word := overridden v.ov.featureIdEdx (compose (fields_fn00000001_EDX v))

/-- R139: `x[EDX] <- Val(t, CPUID_Fn00000001_EDX)`. -/
def exec_fn00000001_EDX (s : State) : Host.Outcome State Fault Refusal := execRow .fn00000001_EDX value_fn00000001_EDX s

end Sys2Proof.Machine
end

