-- ==== Sys2Proof/Machine/StdPowerXstate.lean ====
section
/-! DEFINITION. The registers of functions 0000_0005h to 0000_000Dh:
MONITOR/MWAIT, power, structured features, topology, extended state (R140 to R174). For each register: its fields, its
value, and its row run alone. -/

namespace Sys2Proof.Machine

/-- R141, `CPUID_Fn00000005_EAX`, MonMWaitEax: Monitor/MWait. -/
def fields_fn00000005_EAX (_v : Snapshot) : List Field := [
  reservedField 31 16,
  fixedField 15 0 "MonLineSizeMin" 0x40#32]

/-- R141, R105. -/
def value_fn00000005_EAX (v : Snapshot) : Word := compose (fields_fn00000005_EAX v)

/-- R141: `x[EAX] <- Val(t, CPUID_Fn00000005_EAX)`. -/
def exec_fn00000005_EAX (s : State) : Host.Outcome State Fault Refusal := execRow .fn00000005_EAX value_fn00000005_EAX s

/-- R142, `CPUID_Fn00000005_EBX`, MonMWaitEbx: Monitor/MWait. -/
def fields_fn00000005_EBX (_v : Snapshot) : List Field := [
  reservedField 31 16,
  fixedField 15 0 "MonLineSizeMax" 0x40#32]

/-- R142, R105. -/
def value_fn00000005_EBX (v : Snapshot) : Word := compose (fields_fn00000005_EBX v)

/-- R142: `x[EBX] <- Val(t, CPUID_Fn00000005_EBX)`. -/
def exec_fn00000005_EBX (s : State) : Host.Outcome State Fault Refusal := execRow .fn00000005_EBX value_fn00000005_EBX s

/-- R143, `CPUID_Fn00000005_ECX`, MonMWaitEcx: Monitor/MWait. -/
def fields_fn00000005_ECX (_v : Snapshot) : List Field := [
  reservedField 31 2,
  fixedField 1 1 "IBE" 0x1#32,
  fixedField 0 0 "EMX" 0x1#32]

/-- R143, R105. -/
def value_fn00000005_ECX (v : Snapshot) : Word := compose (fields_fn00000005_ECX v)

/-- R143: `x[ECX] <- Val(t, CPUID_Fn00000005_ECX)`. -/
def exec_fn00000005_ECX (s : State) : Host.Outcome State Fault Refusal := execRow .fn00000005_ECX value_fn00000005_ECX s

/-- R144, `CPUID_Fn00000005_EDX`, MonMWaitEdx: Monitor/MWait. -/
def fields_fn00000005_EDX (_v : Snapshot) : List Field := [
  reservedField 31 8,
  fixedField 7 4 "MWaitC1SubStates" 0x1#32,
  fixedField 3 0 "MWaitC0SubStates" 0x1#32]

/-- R144, R105. -/
def value_fn00000005_EDX (v : Snapshot) : Word := compose (fields_fn00000005_EDX v)

/-- R144: `x[EDX] <- Val(t, CPUID_Fn00000005_EDX)`. -/
def exec_fn00000005_EDX (s : State) : Host.Outcome State Fault Refusal := execRow .fn00000005_EDX value_fn00000005_EDX s

/-- R146, `CPUID_Fn00000006_EAX`, ThermalPwrMgmtEax: Thermal and Power Management. -/
def fields_fn00000006_EAX (_v : Snapshot) : List Field := [
  reservedField 31 3,
  fixedField 2 2 "ARAT" 0x1#32,
  reservedField 1 0]

/-- R146, R105. -/
def value_fn00000006_EAX (v : Snapshot) : Word := compose (fields_fn00000006_EAX v)

/-- R146: `x[EAX] <- Val(t, CPUID_Fn00000006_EAX)`. -/
def exec_fn00000006_EAX (s : State) : Host.Outcome State Fault Refusal := execRow .fn00000006_EAX value_fn00000006_EAX s

/-- R147, `CPUID_Fn00000006_EBX`, ThermalPwrMgmtEbx: Thermal and Power Management. -/
def fields_fn00000006_EBX (_v : Snapshot) : List Field := [
  reservedField 31 0]

/-- R147, R105. -/
def value_fn00000006_EBX (v : Snapshot) : Word := compose (fields_fn00000006_EBX v)

/-- R147: `x[EBX] <- Val(t, CPUID_Fn00000006_EBX)`. -/
def exec_fn00000006_EBX (s : State) : Host.Outcome State Fault Refusal := execRow .fn00000006_EBX value_fn00000006_EBX s

/-- R148, `CPUID_Fn00000006_ECX`, ThermalPwrMgmtEcx: Thermal and Power Management. -/
def fields_fn00000006_ECX (_v : Snapshot) : List Field := [
  reservedField 31 1,
  fixedField 0 0 "EffFreq" 0x1#32]

/-- R148, R105, and the override of R109. -/
def value_fn00000006_ECX (v : Snapshot) : Word := overridden v.ov.thermalPwrMgmtEcx (compose (fields_fn00000006_ECX v))

/-- R148: `x[ECX] <- Val(t, CPUID_Fn00000006_ECX)`. -/
def exec_fn00000006_ECX (s : State) : Host.Outcome State Fault Refusal := execRow .fn00000006_ECX value_fn00000006_ECX s

/-- R149, `CPUID_Fn00000006_EDX`, ThermalPwrMgmtEdx: Thermal and Power Management. -/
def fields_fn00000006_EDX (_v : Snapshot) : List Field := [
  reservedField 31 0]

/-- R149, R105. -/
def value_fn00000006_EDX (v : Snapshot) : Word := compose (fields_fn00000006_EDX v)

/-- R149: `x[EDX] <- Val(t, CPUID_Fn00000006_EDX)`. -/
def exec_fn00000006_EDX (s : State) : Host.Outcome State Fault Refusal := execRow .fn00000006_EDX value_fn00000006_EDX s

/-- R151, `CPUID_Fn00000007_EAX_x00`, StructExtFeatIdEax0: Structured Extended Feature Identifiers. -/
def fields_fn00000007_EAX_x00 (_v : Snapshot) : List Field := [
  fixedField 31 0 "StructExtFeatIdMax" 0x0#32]

/-- R151, R105. -/
def value_fn00000007_EAX_x00 (v : Snapshot) : Word := compose (fields_fn00000007_EAX_x00 v)

/-- R151: `x[EAX] <- Val(t, CPUID_Fn00000007_EAX_x00)`. -/
def exec_fn00000007_EAX_x00 (s : State) : Host.Outcome State Fault Refusal := execRow .fn00000007_EAX_x00 value_fn00000007_EAX_x00 s

/-- R152, `CPUID_Fn00000007_EBX_x00`, StructExtFeatIdEbx0: Structured Extended Feature Identifiers. -/
def fields_fn00000007_EBX_x00 (_v : Snapshot) : List Field := [
  reservedField 31 30,
  fixedField 29 29 "SHA" 0x1#32,
  reservedField 28 24,
  fixedField 23 23 "CLFSHOPT" 0x1#32,
  reservedField 22 21,
  fixedField 20 20 "SMAP" 0x1#32,
  fixedField 19 19 "ADX" 0x1#32,
  fixedField 18 18 "RDSEED" 0x1#32,
  reservedField 17 9,
  fixedField 8 8 "BMI2" 0x1#32,
  fixedField 7 7 "SMEP" 0x1#32,
  reservedField 6 6,
  fixedField 5 5 "AVX2" 0x1#32,
  reservedField 4 4,
  fixedField 3 3 "BMI1" 0x1#32,
  reservedField 2 1,
  fixedField 0 0 "FSGSBASE" 0x1#32]

/-- R152, R105. -/
def value_fn00000007_EBX_x00 (v : Snapshot) : Word := compose (fields_fn00000007_EBX_x00 v)

/-- R152: `x[EBX] <- Val(t, CPUID_Fn00000007_EBX_x00)`. -/
def exec_fn00000007_EBX_x00 (s : State) : Host.Outcome State Fault Refusal := execRow .fn00000007_EBX_x00 value_fn00000007_EBX_x00 s

/-- R153, `CPUID_Fn00000007_ECX_x00`, StructExtFeatIdEcx0: Structured Extended Feature Identifier. -/
def fields_fn00000007_ECX_x00 (_v : Snapshot) : List Field := [
  reservedField 31 0]

/-- R153, R105. -/
def value_fn00000007_ECX_x00 (v : Snapshot) : Word := compose (fields_fn00000007_ECX_x00 v)

/-- R153: `x[ECX] <- Val(t, CPUID_Fn00000007_ECX_x00)`. -/
def exec_fn00000007_ECX_x00 (s : State) : Host.Outcome State Fault Refusal := execRow .fn00000007_ECX_x00 value_fn00000007_ECX_x00 s

/-- R154, `CPUID_Fn00000007_EDX_x00`, StructExtFeatIdEdx0: Structured Extended Feature Identifiers. -/
def fields_fn00000007_EDX_x00 (_v : Snapshot) : List Field := [
  reservedField 31 0]

/-- R154, R105. -/
def value_fn00000007_EDX_x00 (v : Snapshot) : Word := compose (fields_fn00000007_EDX_x00 v)

/-- R154: `x[EDX] <- Val(t, CPUID_Fn00000007_EDX_x00)`. -/
def exec_fn00000007_EDX_x00 (s : State) : Host.Outcome State Fault Refusal := execRow .fn00000007_EDX_x00 value_fn00000007_EDX_x00 s

/-- R156, `CPUID_Fn0000000B_EAX`, ExtTopEnumEax: Extended Topology Enumeration. -/
def fields_fn0000000B_EAX (_v : Snapshot) : List Field := [
  fixedField 31 0 "Reserved" 0x0#32]

/-- R156, R105. -/
def value_fn0000000B_EAX (v : Snapshot) : Word := compose (fields_fn0000000B_EAX v)

/-- R156: `x[EAX] <- Val(t, CPUID_Fn0000000B_EAX)`. -/
def exec_fn0000000B_EAX (s : State) : Host.Outcome State Fault Refusal := execRow .fn0000000B_EAX value_fn0000000B_EAX s

/-- R157, `CPUID_Fn0000000B_EBX`, ExtTopEnumEbx: Extended Topology Enumeration. -/
def fields_fn0000000B_EBX (_v : Snapshot) : List Field := [
  fixedField 31 0 "Reserved" 0x0#32]

/-- R157, R105. -/
def value_fn0000000B_EBX (v : Snapshot) : Word := compose (fields_fn0000000B_EBX v)

/-- R157: `x[EBX] <- Val(t, CPUID_Fn0000000B_EBX)`. -/
def exec_fn0000000B_EBX (s : State) : Host.Outcome State Fault Refusal := execRow .fn0000000B_EBX value_fn0000000B_EBX s

/-- R158, `CPUID_Fn0000000B_ECX`, ExtTopEnumEcx: Extended Topology Enumeration. -/
def fields_fn0000000B_ECX (_v : Snapshot) : List Field := [
  fixedField 31 0 "Reserved" 0x0#32]

/-- R158, R105. -/
def value_fn0000000B_ECX (v : Snapshot) : Word := compose (fields_fn0000000B_ECX v)

/-- R158: `x[ECX] <- Val(t, CPUID_Fn0000000B_ECX)`. -/
def exec_fn0000000B_ECX (s : State) : Host.Outcome State Fault Refusal := execRow .fn0000000B_ECX value_fn0000000B_ECX s

/-- R159, `CPUID_Fn0000000B_EDX`, ExtTopEnumEdx: Extended Topology Enumeration. -/
def fields_fn0000000B_EDX (_v : Snapshot) : List Field := [
  fixedField 31 0 "Reserved" 0x0#32]

/-- R159, R105. -/
def value_fn0000000B_EDX (v : Snapshot) : Word := compose (fields_fn0000000B_EDX v)

/-- R159: `x[EDX] <- Val(t, CPUID_Fn0000000B_EDX)`. -/
def exec_fn0000000B_EDX (s : State) : Host.Outcome State Fault Refusal := execRow .fn0000000B_EDX value_fn0000000B_EDX s

/-- R161, `CPUID_Fn0000000D_EAX_x00`, ProcExtStateEnumEax00: Processor Extended State Enumeration. -/
def fields_fn0000000D_EAX_x00 (_v : Snapshot) : List Field := [
  fixedField 31 0 "XFeatureSupportedMask[31:0]" 0x7#32]

/-- R161, R105. -/
def value_fn0000000D_EAX_x00 (v : Snapshot) : Word := compose (fields_fn0000000D_EAX_x00 v)

/-- R161: `x[EAX] <- Val(t, CPUID_Fn0000000D_EAX_x00)`. -/
def exec_fn0000000D_EAX_x00 (s : State) : Host.Outcome State Fault Refusal := execRow .fn0000000D_EAX_x00 value_fn0000000D_EAX_x00 s

/-- R162, `CPUID_Fn0000000D_EBX_x00`, ProcExtStateEnumEbx00: Processor Extended State Enumeration. -/
def fields_fn0000000D_EBX_x00 (v : Snapshot) : List Field := [
  volatileField 31 0 "XFeatureEnabledSizeMax" (if v.inp.xcr0Avx then 0x00000340#32 else 0x00000240#32)]

/-- R162, R105. -/
def value_fn0000000D_EBX_x00 (v : Snapshot) : Word := compose (fields_fn0000000D_EBX_x00 v)

/-- R162: `x[EBX] <- Val(t, CPUID_Fn0000000D_EBX_x00)`. -/
def exec_fn0000000D_EBX_x00 (s : State) : Host.Outcome State Fault Refusal := execRow .fn0000000D_EBX_x00 value_fn0000000D_EBX_x00 s

/-- R163, `CPUID_Fn0000000D_ECX_x00`, ProcExtStateEnumEcx00: Processor Extended State Enumeration. -/
def fields_fn0000000D_ECX_x00 (v : Snapshot) : List Field := [
  paramField 31 0 "XFeatureSupportedSizeMax" v.p.xFeatureSupportedSizeMax]

/-- R163, R105. -/
def value_fn0000000D_ECX_x00 (v : Snapshot) : Word := compose (fields_fn0000000D_ECX_x00 v)

/-- R163: `x[ECX] <- Val(t, CPUID_Fn0000000D_ECX_x00)`. -/
def exec_fn0000000D_ECX_x00 (s : State) : Host.Outcome State Fault Refusal := execRow .fn0000000D_ECX_x00 value_fn0000000D_ECX_x00 s

/-- R164, `CPUID_Fn0000000D_EDX_x00`, ProcExtStateEnumEdx00: Processor Extended State Enumeration. -/
def fields_fn0000000D_EDX_x00 (_v : Snapshot) : List Field := [
  fixedField 31 0 "XFeatureSupportedMask[63:32]" 0x0#32]

/-- R164, R105. -/
def value_fn0000000D_EDX_x00 (v : Snapshot) : Word := compose (fields_fn0000000D_EDX_x00 v)

/-- R164: `x[EDX] <- Val(t, CPUID_Fn0000000D_EDX_x00)`. -/
def exec_fn0000000D_EDX_x00 (s : State) : Host.Outcome State Fault Refusal := execRow .fn0000000D_EDX_x00 value_fn0000000D_EDX_x00 s

/-- R166, `CPUID_Fn0000000D_EAX_x01`, ProcExtStateEnumEax01: Processor Extended State Enumeration. -/
def fields_fn0000000D_EAX_x01 (_v : Snapshot) : List Field := [
  reservedField 31 4,
  fixedField 3 3 "XSAVES" 0x1#32,
  fixedField 2 2 "XGETBV" 0x1#32,
  fixedField 1 1 "XSAVEC" 0x1#32,
  fixedField 0 0 "XSAVEOPT" 0x1#32]

/-- R166, R105. -/
def value_fn0000000D_EAX_x01 (v : Snapshot) : Word := compose (fields_fn0000000D_EAX_x01 v)

/-- R166: `x[EAX] <- Val(t, CPUID_Fn0000000D_EAX_x01)`. -/
def exec_fn0000000D_EAX_x01 (s : State) : Host.Outcome State Fault Refusal := execRow .fn0000000D_EAX_x01 value_fn0000000D_EAX_x01 s

/-- R167, `CPUID_Fn0000000D_EBX_x01`, ProcExtStateEnumEbx01: Processor Extended State Enumeration. -/
def fields_fn0000000D_EBX_x01 (v : Snapshot) : List Field := [
  volatileField 31 0 "XFeatureEnabledSizeMax" (if v.inp.xcr0Avx then 0x00000340#32 else 0x00000240#32)]

/-- R167, R105. -/
def value_fn0000000D_EBX_x01 (v : Snapshot) : Word := compose (fields_fn0000000D_EBX_x01 v)

/-- R167: `x[EBX] <- Val(t, CPUID_Fn0000000D_EBX_x01)`. -/
def exec_fn0000000D_EBX_x01 (s : State) : Host.Outcome State Fault Refusal := execRow .fn0000000D_EBX_x01 value_fn0000000D_EBX_x01 s

/-- R168, `CPUID_Fn0000000D_ECX_x01`, ProcExtStateEnumEcx01: Processor Extended State Enumeration. -/
def fields_fn0000000D_ECX_x01 (_v : Snapshot) : List Field := [
  fixedField 31 0 "Reserved" 0x0#32]

/-- R168, R105. -/
def value_fn0000000D_ECX_x01 (v : Snapshot) : Word := compose (fields_fn0000000D_ECX_x01 v)

/-- R168: `x[ECX] <- Val(t, CPUID_Fn0000000D_ECX_x01)`. -/
def exec_fn0000000D_ECX_x01 (s : State) : Host.Outcome State Fault Refusal := execRow .fn0000000D_ECX_x01 value_fn0000000D_ECX_x01 s

/-- R169, `CPUID_Fn0000000D_EDX_x01`, ProcExtStateEnumEdx01: Processor Extended State Enumeration. -/
def fields_fn0000000D_EDX_x01 (_v : Snapshot) : List Field := [
  fixedField 31 0 "Reserved" 0x0#32]

/-- R169, R105. -/
def value_fn0000000D_EDX_x01 (v : Snapshot) : Word := compose (fields_fn0000000D_EDX_x01 v)

/-- R169: `x[EDX] <- Val(t, CPUID_Fn0000000D_EDX_x01)`. -/
def exec_fn0000000D_EDX_x01 (s : State) : Host.Outcome State Fault Refusal := execRow .fn0000000D_EDX_x01 value_fn0000000D_EDX_x01 s

/-- R171, `CPUID_Fn0000000D_EAX_x02`, ProcExtStateEnumEax02: Processor Extended State Enumeration. -/
def fields_fn0000000D_EAX_x02 (_v : Snapshot) : List Field := [
  fixedField 31 0 "YmmSaveStateSize" 0x100#32]

/-- R171, R105. -/
def value_fn0000000D_EAX_x02 (v : Snapshot) : Word := compose (fields_fn0000000D_EAX_x02 v)

/-- R171: `x[EAX] <- Val(t, CPUID_Fn0000000D_EAX_x02)`. -/
def exec_fn0000000D_EAX_x02 (s : State) : Host.Outcome State Fault Refusal := execRow .fn0000000D_EAX_x02 value_fn0000000D_EAX_x02 s

/-- R172, `CPUID_Fn0000000D_EBX_x02`, ProcExtStateEnumEbx02: Processor Extended State Enumeration. -/
def fields_fn0000000D_EBX_x02 (_v : Snapshot) : List Field := [
  fixedField 31 0 "YmmSaveStateOffset" 0x240#32]

/-- R172, R105. -/
def value_fn0000000D_EBX_x02 (v : Snapshot) : Word := compose (fields_fn0000000D_EBX_x02 v)

/-- R172: `x[EBX] <- Val(t, CPUID_Fn0000000D_EBX_x02)`. -/
def exec_fn0000000D_EBX_x02 (s : State) : Host.Outcome State Fault Refusal := execRow .fn0000000D_EBX_x02 value_fn0000000D_EBX_x02 s

/-- R173, `CPUID_Fn0000000D_ECX_x02`, ProcExtStateEnumEcx02: Processor Extended State Enumeration. -/
def fields_fn0000000D_ECX_x02 (_v : Snapshot) : List Field := [
  fixedField 31 0 "Reserved" 0x0#32]

/-- R173, R105. -/
def value_fn0000000D_ECX_x02 (v : Snapshot) : Word := compose (fields_fn0000000D_ECX_x02 v)

/-- R173: `x[ECX] <- Val(t, CPUID_Fn0000000D_ECX_x02)`. -/
def exec_fn0000000D_ECX_x02 (s : State) : Host.Outcome State Fault Refusal := execRow .fn0000000D_ECX_x02 value_fn0000000D_ECX_x02 s

/-- R174, `CPUID_Fn0000000D_EDX_x02`, ProcExtStateEnumEdx02: Processor Extended State Enumeration. -/
def fields_fn0000000D_EDX_x02 (_v : Snapshot) : List Field := [
  fixedField 31 0 "Reserved" 0x0#32]

/-- R174, R105. -/
def value_fn0000000D_EDX_x02 (v : Snapshot) : Word := compose (fields_fn0000000D_EDX_x02 v)

/-- R174: `x[EDX] <- Val(t, CPUID_Fn0000000D_EDX_x02)`. -/
def exec_fn0000000D_EDX_x02 (s : State) : Host.Outcome State Fault Refusal := execRow .fn0000000D_EDX_x02 value_fn0000000D_EDX_x02 s

end Sys2Proof.Machine
end

