-- ==== Sys2Proof/Machine/Cpuid.lean ====
section
/-! DEFINITION. The instruction `CPUID` (R100) and its dispatch over the register rows (R101, R104). -/

namespace Sys2Proof.Machine

/-- The fields of a register row. -/
def rowFields (i : Instr) (v : Snapshot) : List Field :=
  match i with
  | .cpuid => []
  | .fn00000000_EAX => fields_fn00000000_EAX v
  | .fn00000000_EBX => fields_fn00000000_EBX v
  | .fn00000000_ECX => fields_fn00000000_ECX v
  | .fn00000000_EDX => fields_fn00000000_EDX v
  | .fn00000001_EAX => fields_fn00000001_EAX v
  | .fn00000001_EBX => fields_fn00000001_EBX v
  | .fn00000001_ECX => fields_fn00000001_ECX v
  | .fn00000001_EDX => fields_fn00000001_EDX v
  | .fn00000005_EAX => fields_fn00000005_EAX v
  | .fn00000005_EBX => fields_fn00000005_EBX v
  | .fn00000005_ECX => fields_fn00000005_ECX v
  | .fn00000005_EDX => fields_fn00000005_EDX v
  | .fn00000006_EAX => fields_fn00000006_EAX v
  | .fn00000006_EBX => fields_fn00000006_EBX v
  | .fn00000006_ECX => fields_fn00000006_ECX v
  | .fn00000006_EDX => fields_fn00000006_EDX v
  | .fn00000007_EAX_x00 => fields_fn00000007_EAX_x00 v
  | .fn00000007_EBX_x00 => fields_fn00000007_EBX_x00 v
  | .fn00000007_ECX_x00 => fields_fn00000007_ECX_x00 v
  | .fn00000007_EDX_x00 => fields_fn00000007_EDX_x00 v
  | .fn0000000B_EAX => fields_fn0000000B_EAX v
  | .fn0000000B_EBX => fields_fn0000000B_EBX v
  | .fn0000000B_ECX => fields_fn0000000B_ECX v
  | .fn0000000B_EDX => fields_fn0000000B_EDX v
  | .fn0000000D_EAX_x00 => fields_fn0000000D_EAX_x00 v
  | .fn0000000D_EBX_x00 => fields_fn0000000D_EBX_x00 v
  | .fn0000000D_ECX_x00 => fields_fn0000000D_ECX_x00 v
  | .fn0000000D_EDX_x00 => fields_fn0000000D_EDX_x00 v
  | .fn0000000D_EAX_x01 => fields_fn0000000D_EAX_x01 v
  | .fn0000000D_EBX_x01 => fields_fn0000000D_EBX_x01 v
  | .fn0000000D_ECX_x01 => fields_fn0000000D_ECX_x01 v
  | .fn0000000D_EDX_x01 => fields_fn0000000D_EDX_x01 v
  | .fn0000000D_EAX_x02 => fields_fn0000000D_EAX_x02 v
  | .fn0000000D_EBX_x02 => fields_fn0000000D_EBX_x02 v
  | .fn0000000D_ECX_x02 => fields_fn0000000D_ECX_x02 v
  | .fn0000000D_EDX_x02 => fields_fn0000000D_EDX_x02 v
  | .fn80000000_EAX => fields_fn80000000_EAX v
  | .fn80000000_EBX => fields_fn80000000_EBX v
  | .fn80000000_ECX => fields_fn80000000_ECX v
  | .fn80000000_EDX => fields_fn80000000_EDX v
  | .fn80000001_EAX => fields_fn80000001_EAX v
  | .fn80000001_EBX => fields_fn80000001_EBX v
  | .fn80000001_ECX => fields_fn80000001_ECX v
  | .fn80000001_EDX => fields_fn80000001_EDX v
  | .fn80000002_EAX => fields_fn80000002_EAX v
  | .fn80000002_EBX => fields_fn80000002_EBX v
  | .fn80000002_ECX => fields_fn80000002_ECX v
  | .fn80000002_EDX => fields_fn80000002_EDX v
  | .fn80000003_EAX => fields_fn80000003_EAX v
  | .fn80000003_EBX => fields_fn80000003_EBX v
  | .fn80000003_ECX => fields_fn80000003_ECX v
  | .fn80000003_EDX => fields_fn80000003_EDX v
  | .fn80000004_EAX => fields_fn80000004_EAX v
  | .fn80000004_EBX => fields_fn80000004_EBX v
  | .fn80000004_ECX => fields_fn80000004_ECX v
  | .fn80000004_EDX => fields_fn80000004_EDX v
  | .fn80000005_EAX => fields_fn80000005_EAX v
  | .fn80000005_EBX => fields_fn80000005_EBX v
  | .fn80000005_ECX => fields_fn80000005_ECX v
  | .fn80000005_EDX => fields_fn80000005_EDX v
  | .fn80000006_EAX => fields_fn80000006_EAX v
  | .fn80000006_EBX => fields_fn80000006_EBX v
  | .fn80000006_ECX => fields_fn80000006_ECX v
  | .fn80000006_EDX => fields_fn80000006_EDX v
  | .fn80000007_EAX => fields_fn80000007_EAX v
  | .fn80000007_EBX => fields_fn80000007_EBX v
  | .fn80000007_ECX => fields_fn80000007_ECX v
  | .fn80000007_EDX => fields_fn80000007_EDX v
  | .fn80000008_EAX => fields_fn80000008_EAX v
  | .fn80000008_EBX => fields_fn80000008_EBX v
  | .fn80000008_ECX => fields_fn80000008_ECX v
  | .fn8000000A_EAX => fields_fn8000000A_EAX v
  | .fn8000000A_EBX => fields_fn8000000A_EBX v
  | .fn8000000A_EDX => fields_fn8000000A_EDX v
  | .fn80000019_EAX => fields_fn80000019_EAX v
  | .fn80000019_EBX => fields_fn80000019_EBX v
  | .fn8000001A_EAX => fields_fn8000001A_EAX v
  | .fn8000001B_EAX => fields_fn8000001B_EAX v
  | .fn8000001D_EAX_x00 => fields_fn8000001D_EAX_x00 v
  | .fn8000001D_EAX_x01 => fields_fn8000001D_EAX_x01 v
  | .fn8000001D_EAX_x02 => fields_fn8000001D_EAX_x02 v
  | .fn8000001D_EAX_x03 => fields_fn8000001D_EAX_x03 v
  | .fn8000001D_EAX_x04 => fields_fn8000001D_EAX_x04 v
  | .fn8000001D_EBX_x00 => fields_fn8000001D_EBX_x00 v
  | .fn8000001D_EBX_x01 => fields_fn8000001D_EBX_x01 v
  | .fn8000001D_EBX_x02 => fields_fn8000001D_EBX_x02 v
  | .fn8000001D_EBX_x03 => fields_fn8000001D_EBX_x03 v
  | .fn8000001D_EBX_x04 => fields_fn8000001D_EBX_x04 v
  | .fn8000001D_ECX_x00 => fields_fn8000001D_ECX_x00 v
  | .fn8000001D_ECX_x01 => fields_fn8000001D_ECX_x01 v
  | .fn8000001D_ECX_x02 => fields_fn8000001D_ECX_x02 v
  | .fn8000001D_ECX_x03 => fields_fn8000001D_ECX_x03 v
  | .fn8000001D_ECX_x04 => fields_fn8000001D_ECX_x04 v
  | .fn8000001D_EDX_x00 => fields_fn8000001D_EDX_x00 v
  | .fn8000001D_EDX_x01 => fields_fn8000001D_EDX_x01 v
  | .fn8000001D_EDX_x02 => fields_fn8000001D_EDX_x02 v
  | .fn8000001D_EDX_x03 => fields_fn8000001D_EDX_x03 v
  | .fn8000001D_EDX_x04 => fields_fn8000001D_EDX_x04 v
  | .fn8000001E_EAX => fields_fn8000001E_EAX v
  | .fn8000001E_EBX => fields_fn8000001E_EBX v
  | .fn8000001E_ECX => fields_fn8000001E_ECX v
  | .fn8000001F_EAX => fields_fn8000001F_EAX v
  | .fn8000001F_EBX => fields_fn8000001F_EBX v
  | .fn8000001F_ECX => fields_fn8000001F_ECX v
  | .fn8000001F_EDX => fields_fn8000001F_EDX v

/-- `Val(t, r)` of a register row (R7, R105, R107, R108). `CPUID` itself is no register. -/
def rowValue (i : Instr) (v : Snapshot) : Word :=
  match i with
  | .cpuid => 0#32
  | .fn00000000_EAX => value_fn00000000_EAX v
  | .fn00000000_EBX => value_fn00000000_EBX v
  | .fn00000000_ECX => value_fn00000000_ECX v
  | .fn00000000_EDX => value_fn00000000_EDX v
  | .fn00000001_EAX => value_fn00000001_EAX v
  | .fn00000001_EBX => value_fn00000001_EBX v
  | .fn00000001_ECX => value_fn00000001_ECX v
  | .fn00000001_EDX => value_fn00000001_EDX v
  | .fn00000005_EAX => value_fn00000005_EAX v
  | .fn00000005_EBX => value_fn00000005_EBX v
  | .fn00000005_ECX => value_fn00000005_ECX v
  | .fn00000005_EDX => value_fn00000005_EDX v
  | .fn00000006_EAX => value_fn00000006_EAX v
  | .fn00000006_EBX => value_fn00000006_EBX v
  | .fn00000006_ECX => value_fn00000006_ECX v
  | .fn00000006_EDX => value_fn00000006_EDX v
  | .fn00000007_EAX_x00 => value_fn00000007_EAX_x00 v
  | .fn00000007_EBX_x00 => value_fn00000007_EBX_x00 v
  | .fn00000007_ECX_x00 => value_fn00000007_ECX_x00 v
  | .fn00000007_EDX_x00 => value_fn00000007_EDX_x00 v
  | .fn0000000B_EAX => value_fn0000000B_EAX v
  | .fn0000000B_EBX => value_fn0000000B_EBX v
  | .fn0000000B_ECX => value_fn0000000B_ECX v
  | .fn0000000B_EDX => value_fn0000000B_EDX v
  | .fn0000000D_EAX_x00 => value_fn0000000D_EAX_x00 v
  | .fn0000000D_EBX_x00 => value_fn0000000D_EBX_x00 v
  | .fn0000000D_ECX_x00 => value_fn0000000D_ECX_x00 v
  | .fn0000000D_EDX_x00 => value_fn0000000D_EDX_x00 v
  | .fn0000000D_EAX_x01 => value_fn0000000D_EAX_x01 v
  | .fn0000000D_EBX_x01 => value_fn0000000D_EBX_x01 v
  | .fn0000000D_ECX_x01 => value_fn0000000D_ECX_x01 v
  | .fn0000000D_EDX_x01 => value_fn0000000D_EDX_x01 v
  | .fn0000000D_EAX_x02 => value_fn0000000D_EAX_x02 v
  | .fn0000000D_EBX_x02 => value_fn0000000D_EBX_x02 v
  | .fn0000000D_ECX_x02 => value_fn0000000D_ECX_x02 v
  | .fn0000000D_EDX_x02 => value_fn0000000D_EDX_x02 v
  | .fn80000000_EAX => value_fn80000000_EAX v
  | .fn80000000_EBX => value_fn80000000_EBX v
  | .fn80000000_ECX => value_fn80000000_ECX v
  | .fn80000000_EDX => value_fn80000000_EDX v
  | .fn80000001_EAX => value_fn80000001_EAX v
  | .fn80000001_EBX => value_fn80000001_EBX v
  | .fn80000001_ECX => value_fn80000001_ECX v
  | .fn80000001_EDX => value_fn80000001_EDX v
  | .fn80000002_EAX => value_fn80000002_EAX v
  | .fn80000002_EBX => value_fn80000002_EBX v
  | .fn80000002_ECX => value_fn80000002_ECX v
  | .fn80000002_EDX => value_fn80000002_EDX v
  | .fn80000003_EAX => value_fn80000003_EAX v
  | .fn80000003_EBX => value_fn80000003_EBX v
  | .fn80000003_ECX => value_fn80000003_ECX v
  | .fn80000003_EDX => value_fn80000003_EDX v
  | .fn80000004_EAX => value_fn80000004_EAX v
  | .fn80000004_EBX => value_fn80000004_EBX v
  | .fn80000004_ECX => value_fn80000004_ECX v
  | .fn80000004_EDX => value_fn80000004_EDX v
  | .fn80000005_EAX => value_fn80000005_EAX v
  | .fn80000005_EBX => value_fn80000005_EBX v
  | .fn80000005_ECX => value_fn80000005_ECX v
  | .fn80000005_EDX => value_fn80000005_EDX v
  | .fn80000006_EAX => value_fn80000006_EAX v
  | .fn80000006_EBX => value_fn80000006_EBX v
  | .fn80000006_ECX => value_fn80000006_ECX v
  | .fn80000006_EDX => value_fn80000006_EDX v
  | .fn80000007_EAX => value_fn80000007_EAX v
  | .fn80000007_EBX => value_fn80000007_EBX v
  | .fn80000007_ECX => value_fn80000007_ECX v
  | .fn80000007_EDX => value_fn80000007_EDX v
  | .fn80000008_EAX => value_fn80000008_EAX v
  | .fn80000008_EBX => value_fn80000008_EBX v
  | .fn80000008_ECX => value_fn80000008_ECX v
  | .fn8000000A_EAX => value_fn8000000A_EAX v
  | .fn8000000A_EBX => value_fn8000000A_EBX v
  | .fn8000000A_EDX => value_fn8000000A_EDX v
  | .fn80000019_EAX => value_fn80000019_EAX v
  | .fn80000019_EBX => value_fn80000019_EBX v
  | .fn8000001A_EAX => value_fn8000001A_EAX v
  | .fn8000001B_EAX => value_fn8000001B_EAX v
  | .fn8000001D_EAX_x00 => value_fn8000001D_EAX_x00 v
  | .fn8000001D_EAX_x01 => value_fn8000001D_EAX_x01 v
  | .fn8000001D_EAX_x02 => value_fn8000001D_EAX_x02 v
  | .fn8000001D_EAX_x03 => value_fn8000001D_EAX_x03 v
  | .fn8000001D_EAX_x04 => value_fn8000001D_EAX_x04 v
  | .fn8000001D_EBX_x00 => value_fn8000001D_EBX_x00 v
  | .fn8000001D_EBX_x01 => value_fn8000001D_EBX_x01 v
  | .fn8000001D_EBX_x02 => value_fn8000001D_EBX_x02 v
  | .fn8000001D_EBX_x03 => value_fn8000001D_EBX_x03 v
  | .fn8000001D_EBX_x04 => value_fn8000001D_EBX_x04 v
  | .fn8000001D_ECX_x00 => value_fn8000001D_ECX_x00 v
  | .fn8000001D_ECX_x01 => value_fn8000001D_ECX_x01 v
  | .fn8000001D_ECX_x02 => value_fn8000001D_ECX_x02 v
  | .fn8000001D_ECX_x03 => value_fn8000001D_ECX_x03 v
  | .fn8000001D_ECX_x04 => value_fn8000001D_ECX_x04 v
  | .fn8000001D_EDX_x00 => value_fn8000001D_EDX_x00 v
  | .fn8000001D_EDX_x01 => value_fn8000001D_EDX_x01 v
  | .fn8000001D_EDX_x02 => value_fn8000001D_EDX_x02 v
  | .fn8000001D_EDX_x03 => value_fn8000001D_EDX_x03 v
  | .fn8000001D_EDX_x04 => value_fn8000001D_EDX_x04 v
  | .fn8000001E_EAX => value_fn8000001E_EAX v
  | .fn8000001E_EBX => value_fn8000001E_EBX v
  | .fn8000001E_ECX => value_fn8000001E_ECX v
  | .fn8000001F_EAX => value_fn8000001F_EAX v
  | .fn8000001F_EBX => value_fn8000001F_EBX v
  | .fn8000001F_ECX => value_fn8000001F_ECX v
  | .fn8000001F_EDX => value_fn8000001F_EDX v

/-- One output of `Leaf(t, fn, sub)`: the value of the register the selector reaches, or `Unlisted` (R101, R104). -/
def Snapshot.leafOutput (v : Snapshot) (out : Gpr) : Word :=
  match decodePoint ⟨v.fn, v.sub, out⟩ with
  | some i => rowValue i v
  | none => v.unlisted out

/-- The execution can meet the free value `Unlisted`: an output has no register (R101, R104), or a replaced feature register
can make the registers it reports unlisted (R110). -/
def Snapshot.meetsUnlisted (v : Snapshot) : Bool :=
  [Gpr.eax, .ebx, .ecx, .edx].any (fun out => (decodePoint ⟨v.fn, v.sub, out⟩).isNone) || v.ov.featureExtIdEcx.isSome

/-- The key after the execution: another, unknown one where `Unlisted` can be met (R104), else the one it was. -/
def Snapshot.keyAfter (v : Snapshot) : Nat := if v.meetsUnlisted then Config.nextUnlisted v.key else v.key

/-- The thread after `CPUID`: the four outputs of one snapshot in EAX, EBX, ECX and EDX, pc past the two bytes, the flags as
they were (R22, R23, R64, R100). -/
def Hart.afterCpuid (h : Hart) (v : Snapshot) : Hart :=
  let h' := (((h.writeGpr .eax (v.leafOutput .eax)).writeGpr .ebx (v.leafOutput .ebx)).writeGpr .ecx
    (v.leafOutput .ecx)).writeGpr .edx (v.leafOutput .edx)
  { h' with pc := advancePc v.p.pcWidth h.pc 2, rflags := flagsAfterCpuid h.rflags, unlistedKey := v.keyAfter }

/-- R100: `CPUID` reads EAX and ECX, looks up the four values of the leaf for the executing thread, writes them and advances
pc by 2. It raises nothing (R340). -/
def exec_cpuid (s : State) : Host.Outcome State Fault Refusal :=
  s.whenReady (.next (s.setSelf (s.self.afterCpuid s.snapshot)))

end Sys2Proof.Machine
end

