-- ==== Sys2Proof/Machine/Dispatch.lean ====
section
/-! DEFINITION. One arm per row of the opcode table. -/

namespace Sys2Proof.Machine

def exec (i : Instr) (s : State) : Host.Outcome State Fault Refusal :=
  match i with
  | .cpuid => Sys2Proof.Machine.exec_cpuid s
  -- 41_standard_identity_features.md
  | .fn00000000_EAX => Sys2Proof.Machine.exec_fn00000000_EAX s
  | .fn00000000_EBX => Sys2Proof.Machine.exec_fn00000000_EBX s
  | .fn00000000_ECX => Sys2Proof.Machine.exec_fn00000000_ECX s
  | .fn00000000_EDX => Sys2Proof.Machine.exec_fn00000000_EDX s
  | .fn00000001_EAX => Sys2Proof.Machine.exec_fn00000001_EAX s
  | .fn00000001_EBX => Sys2Proof.Machine.exec_fn00000001_EBX s
  | .fn00000001_ECX => Sys2Proof.Machine.exec_fn00000001_ECX s
  | .fn00000001_EDX => Sys2Proof.Machine.exec_fn00000001_EDX s
  -- 42_standard_power_xstate.md
  | .fn00000005_EAX => Sys2Proof.Machine.exec_fn00000005_EAX s
  | .fn00000005_EBX => Sys2Proof.Machine.exec_fn00000005_EBX s
  | .fn00000005_ECX => Sys2Proof.Machine.exec_fn00000005_ECX s
  | .fn00000005_EDX => Sys2Proof.Machine.exec_fn00000005_EDX s
  | .fn00000006_EAX => Sys2Proof.Machine.exec_fn00000006_EAX s
  | .fn00000006_EBX => Sys2Proof.Machine.exec_fn00000006_EBX s
  | .fn00000006_ECX => Sys2Proof.Machine.exec_fn00000006_ECX s
  | .fn00000006_EDX => Sys2Proof.Machine.exec_fn00000006_EDX s
  | .fn00000007_EAX_x00 => Sys2Proof.Machine.exec_fn00000007_EAX_x00 s
  | .fn00000007_EBX_x00 => Sys2Proof.Machine.exec_fn00000007_EBX_x00 s
  | .fn00000007_ECX_x00 => Sys2Proof.Machine.exec_fn00000007_ECX_x00 s
  | .fn00000007_EDX_x00 => Sys2Proof.Machine.exec_fn00000007_EDX_x00 s
  | .fn0000000B_EAX => Sys2Proof.Machine.exec_fn0000000B_EAX s
  | .fn0000000B_EBX => Sys2Proof.Machine.exec_fn0000000B_EBX s
  | .fn0000000B_ECX => Sys2Proof.Machine.exec_fn0000000B_ECX s
  | .fn0000000B_EDX => Sys2Proof.Machine.exec_fn0000000B_EDX s
  | .fn0000000D_EAX_x00 => Sys2Proof.Machine.exec_fn0000000D_EAX_x00 s
  | .fn0000000D_EBX_x00 => Sys2Proof.Machine.exec_fn0000000D_EBX_x00 s
  | .fn0000000D_ECX_x00 => Sys2Proof.Machine.exec_fn0000000D_ECX_x00 s
  | .fn0000000D_EDX_x00 => Sys2Proof.Machine.exec_fn0000000D_EDX_x00 s
  | .fn0000000D_EAX_x01 => Sys2Proof.Machine.exec_fn0000000D_EAX_x01 s
  | .fn0000000D_EBX_x01 => Sys2Proof.Machine.exec_fn0000000D_EBX_x01 s
  | .fn0000000D_ECX_x01 => Sys2Proof.Machine.exec_fn0000000D_ECX_x01 s
  | .fn0000000D_EDX_x01 => Sys2Proof.Machine.exec_fn0000000D_EDX_x01 s
  | .fn0000000D_EAX_x02 => Sys2Proof.Machine.exec_fn0000000D_EAX_x02 s
  | .fn0000000D_EBX_x02 => Sys2Proof.Machine.exec_fn0000000D_EBX_x02 s
  | .fn0000000D_ECX_x02 => Sys2Proof.Machine.exec_fn0000000D_ECX_x02 s
  | .fn0000000D_EDX_x02 => Sys2Proof.Machine.exec_fn0000000D_EDX_x02 s
  -- 43_extended_identity.md
  | .fn80000000_EAX => Sys2Proof.Machine.exec_fn80000000_EAX s
  | .fn80000000_EBX => Sys2Proof.Machine.exec_fn80000000_EBX s
  | .fn80000000_ECX => Sys2Proof.Machine.exec_fn80000000_ECX s
  | .fn80000000_EDX => Sys2Proof.Machine.exec_fn80000000_EDX s
  | .fn80000001_EAX => Sys2Proof.Machine.exec_fn80000001_EAX s
  | .fn80000001_EBX => Sys2Proof.Machine.exec_fn80000001_EBX s
  | .fn80000001_ECX => Sys2Proof.Machine.exec_fn80000001_ECX s
  | .fn80000001_EDX => Sys2Proof.Machine.exec_fn80000001_EDX s
  | .fn80000002_EAX => Sys2Proof.Machine.exec_fn80000002_EAX s
  | .fn80000002_EBX => Sys2Proof.Machine.exec_fn80000002_EBX s
  | .fn80000002_ECX => Sys2Proof.Machine.exec_fn80000002_ECX s
  | .fn80000002_EDX => Sys2Proof.Machine.exec_fn80000002_EDX s
  | .fn80000003_EAX => Sys2Proof.Machine.exec_fn80000003_EAX s
  | .fn80000003_EBX => Sys2Proof.Machine.exec_fn80000003_EBX s
  | .fn80000003_ECX => Sys2Proof.Machine.exec_fn80000003_ECX s
  | .fn80000003_EDX => Sys2Proof.Machine.exec_fn80000003_EDX s
  | .fn80000004_EAX => Sys2Proof.Machine.exec_fn80000004_EAX s
  | .fn80000004_EBX => Sys2Proof.Machine.exec_fn80000004_EBX s
  | .fn80000004_ECX => Sys2Proof.Machine.exec_fn80000004_ECX s
  | .fn80000004_EDX => Sys2Proof.Machine.exec_fn80000004_EDX s
  -- 44_extended_cache_power_svm.md
  | .fn80000005_EAX => Sys2Proof.Machine.exec_fn80000005_EAX s
  | .fn80000005_EBX => Sys2Proof.Machine.exec_fn80000005_EBX s
  | .fn80000005_ECX => Sys2Proof.Machine.exec_fn80000005_ECX s
  | .fn80000005_EDX => Sys2Proof.Machine.exec_fn80000005_EDX s
  | .fn80000006_EAX => Sys2Proof.Machine.exec_fn80000006_EAX s
  | .fn80000006_EBX => Sys2Proof.Machine.exec_fn80000006_EBX s
  | .fn80000006_ECX => Sys2Proof.Machine.exec_fn80000006_ECX s
  | .fn80000006_EDX => Sys2Proof.Machine.exec_fn80000006_EDX s
  | .fn80000007_EAX => Sys2Proof.Machine.exec_fn80000007_EAX s
  | .fn80000007_EBX => Sys2Proof.Machine.exec_fn80000007_EBX s
  | .fn80000007_ECX => Sys2Proof.Machine.exec_fn80000007_ECX s
  | .fn80000007_EDX => Sys2Proof.Machine.exec_fn80000007_EDX s
  | .fn80000008_EAX => Sys2Proof.Machine.exec_fn80000008_EAX s
  | .fn80000008_EBX => Sys2Proof.Machine.exec_fn80000008_EBX s
  | .fn80000008_ECX => Sys2Proof.Machine.exec_fn80000008_ECX s
  | .fn8000000A_EAX => Sys2Proof.Machine.exec_fn8000000A_EAX s
  | .fn8000000A_EBX => Sys2Proof.Machine.exec_fn8000000A_EBX s
  | .fn8000000A_EDX => Sys2Proof.Machine.exec_fn8000000A_EDX s
  -- 45_extended_tlb_ibs_cache_properties.md
  | .fn80000019_EAX => Sys2Proof.Machine.exec_fn80000019_EAX s
  | .fn80000019_EBX => Sys2Proof.Machine.exec_fn80000019_EBX s
  | .fn8000001A_EAX => Sys2Proof.Machine.exec_fn8000001A_EAX s
  | .fn8000001B_EAX => Sys2Proof.Machine.exec_fn8000001B_EAX s
  | .fn8000001D_EAX_x00 => Sys2Proof.Machine.exec_fn8000001D_EAX_x00 s
  | .fn8000001D_EAX_x01 => Sys2Proof.Machine.exec_fn8000001D_EAX_x01 s
  | .fn8000001D_EAX_x02 => Sys2Proof.Machine.exec_fn8000001D_EAX_x02 s
  | .fn8000001D_EAX_x03 => Sys2Proof.Machine.exec_fn8000001D_EAX_x03 s
  | .fn8000001D_EAX_x04 => Sys2Proof.Machine.exec_fn8000001D_EAX_x04 s
  | .fn8000001D_EBX_x00 => Sys2Proof.Machine.exec_fn8000001D_EBX_x00 s
  | .fn8000001D_EBX_x01 => Sys2Proof.Machine.exec_fn8000001D_EBX_x01 s
  | .fn8000001D_EBX_x02 => Sys2Proof.Machine.exec_fn8000001D_EBX_x02 s
  | .fn8000001D_EBX_x03 => Sys2Proof.Machine.exec_fn8000001D_EBX_x03 s
  | .fn8000001D_EBX_x04 => Sys2Proof.Machine.exec_fn8000001D_EBX_x04 s
  | .fn8000001D_ECX_x00 => Sys2Proof.Machine.exec_fn8000001D_ECX_x00 s
  | .fn8000001D_ECX_x01 => Sys2Proof.Machine.exec_fn8000001D_ECX_x01 s
  | .fn8000001D_ECX_x02 => Sys2Proof.Machine.exec_fn8000001D_ECX_x02 s
  | .fn8000001D_ECX_x03 => Sys2Proof.Machine.exec_fn8000001D_ECX_x03 s
  | .fn8000001D_ECX_x04 => Sys2Proof.Machine.exec_fn8000001D_ECX_x04 s
  | .fn8000001D_EDX_x00 => Sys2Proof.Machine.exec_fn8000001D_EDX_x00 s
  | .fn8000001D_EDX_x01 => Sys2Proof.Machine.exec_fn8000001D_EDX_x01 s
  | .fn8000001D_EDX_x02 => Sys2Proof.Machine.exec_fn8000001D_EDX_x02 s
  | .fn8000001D_EDX_x03 => Sys2Proof.Machine.exec_fn8000001D_EDX_x03 s
  | .fn8000001D_EDX_x04 => Sys2Proof.Machine.exec_fn8000001D_EDX_x04 s
  -- 46_extended_topology_sev.md
  | .fn8000001E_EAX => Sys2Proof.Machine.exec_fn8000001E_EAX s
  | .fn8000001E_EBX => Sys2Proof.Machine.exec_fn8000001E_EBX s
  | .fn8000001E_ECX => Sys2Proof.Machine.exec_fn8000001E_ECX s
  | .fn8000001F_EAX => Sys2Proof.Machine.exec_fn8000001F_EAX s
  | .fn8000001F_EBX => Sys2Proof.Machine.exec_fn8000001F_EBX s
  | .fn8000001F_ECX => Sys2Proof.Machine.exec_fn8000001F_ECX s
  | .fn8000001F_EDX => Sys2Proof.Machine.exec_fn8000001F_EDX s

end Sys2Proof.Machine
end

