-- ==== Sys2Proof/Machine/Loader.lean ====
section
/-! DEFINITION. The environment's placing of a program before a run (D26): the bytes at the executing thread's pc, and, where
the encoding is a point of the selector space, the operands that select it. -/

namespace Sys2Proof.Machine

/-- Put bytes at consecutive addresses from `pc + n` on, modulo 2^`P.PcWidth` (R22, R62). -/
def State.placeBytesFrom (s : State) : Nat → List Byte → Memory
  | _, [] => s.mem
  | n, b :: bs => (s.placeBytesFrom (n + 1) bs).writeByte (advancePc s.params.pcWidth s.self.pc n).toNat b

/-- Put the bytes where the executing thread fetches, and schedule nothing before it. -/
def State.placeBytes (s : State) (bs : List Byte) : State :=
  { s with mem := s.placeBytesFrom 0 bs, agenda := [] }

/-- Place an encoding: the bytes of the instruction; or, for a point of the selector space, the bytes of `CPUID` with the
function number in EAX and the subleaf number in ECX. See notes/assumptions/2.md. -/
def State.placeCode (s : State) : Code → State
  | .bytes bs => s.placeBytes bs
  | .point p =>
    let s' := s.placeBytes [0x0F#8, 0xA2#8]
    s'.setSelf ((s'.self.writeGpr .eax p.fn).writeGpr .ecx p.sub)

end Sys2Proof.Machine
end

