-- ==== Sys2Proof/Machine/Step.lean ====
section
/-! DEFINITION. One step of the machine: the next move of an agent (R350, D26). -/

namespace Sys2Proof.Machine

/-- The executing thread fetches, decodes and runs the instruction at its pc (R60, R80, R86). -/
def runThread (s : State) : Host.Outcome State Fault Refusal :=
  match decode s.fetchBytes with
  | .ok (i, _) => exec i s
  | .error r => .refused (rejection r)

/-- One step: a reserved configuration is refused (D24); otherwise the first scheduled move is made, and where none is
scheduled the current thread runs on. See notes/assumptions/4.md. -/
def step (s : State) : Host.Outcome State Fault Refusal :=
  if s.params.wellFormed then
    match s.agenda with
    | [] => runThread s
    | .run t :: rest => runThread { s with current := t, agenda := rest }
    | .change t ch :: rest => .next (State.changeInput { s with agenda := rest } t ch)
  else .refused .reservedConfiguration

/-- The state in which the very next step runs the row that a number of the opcode table stands for. -/
def State.withFetchWord (s : State) (nbits w : Nat) : State :=
  match codeOfTableWord nbits w with
  | some c => s.placeCode c
  | none => s

end Sys2Proof.Machine
end

