-- ==== Sys2Proof/Machine/Derived.lean ====
section
/-! DEFINITION. What software computes from the values CPUID returned, as the source gives it (R61, R65, R112 and the
ValidValues tables). The machine computes none of it. -/

namespace Sys2Proof.Machine

/-- Family[7:0] = (0000b, BaseFamily[3:0]) + ExtFamily[7:0], from the EAX of function 1 (R112, R136). -/
def familyOf (eax : Word) : BitVec 8 := (slice eax 11 8).setWidth 8 + (slice eax 27 20).setWidth 8

/-- Model[7:0] = (ExtModel[3:0], BaseModel[3:0]), from the EAX of function 1 (R112, R136). -/
def modelOf (eax : Word) : BitVec 8 := (slice eax 19 16).setWidth 4 ++ (slice eax 7 4).setWidth 4

/-- Stepping, from the EAX of function 1 (R136). -/
def steppingOf (eax : Word) : BitVec 4 := (slice eax 3 0).setWidth 4

/-- The letter of the revision: model 0h is "A", 1h is "B", and so on (R136). -/
def revisionLetter (eax : Word) : Char := Char.ofNat (65 + (modelOf eax).toNat)

/-- Threads in the package, NC + 1, from the ECX of function 8000_0008h (R112, R258). -/
def threadsInPackage (ecx : Word) : Nat := (slice ecx 7 0).toNat + 1

/-- Threads per core, ThreadsPerCore + 1, from the EBX of function 8000_001Eh (R112, R314). -/
def threadsPerCore (ebx : Word) : Nat := (slice ebx 15 8).toNat + 1

/-- Logical processors sharing a cache, NumSharingCache + 1, from the EAX of function 8000_001Dh (R112, R292). -/
def cacheSharers (eax : Word) : Nat := (slice eax 25 14).toNat + 1

/-- Ways of a cache, CacheNumWays + 1, from the EBX of function 8000_001Dh (R112, R297). -/
def cacheWays (ebx : Word) : Nat := (slice ebx 31 22).toNat + 1

/-- Physical line partitions, CachePhysPartitions + 1 (R112, R297). -/
def cachePartitions (ebx : Word) : Nat := (slice ebx 21 12).toNat + 1

/-- Line size in bytes, CacheLineSize + 1 (R112, R297). -/
def cacheLineSize (ebx : Word) : Nat := (slice ebx 11 0).toNat + 1

/-- Sets, CacheNumSets + 1, from the ECX of function 8000_001Dh (R112, R302). -/
def cacheSets (ecx : Word) : Nat := ecx.toNat + 1

/-- The size in bytes that ways, sets and line size give (the cross-checks of R243, R244, R248). -/
def cacheBytes (ebx ecx : Word) : Nat := cacheWays ebx * cacheSets ecx * cacheLineSize ebx

/-- L3 size in KB, L3Size x 512, from the EDX of function 8000_0006h (R112, R249). -/
def l3SizeKB (edx : Word) : Nat := (slice edx 31 18).toNat * 512

/-- The CoreId formula as printed; what its operands hold is not in the source, and no value of the model uses it (R112, R314). -/
def coreIdFormula (dieId : BitVec 2) (logicalComplexId : BitVec 1) (logicalThreadId : BitVec 3) (smt : Nat) : BitVec 8 :=
  (0#2 ++ dieId ++ logicalComplexId ++ logicalThreadId) >>> smt

/-- The four string bytes of a register, lowest-numbered first: byte 0 is in bits 7:0 (R61). -/
def stringBytes (w : Word) : List Byte :=
  [(slice w 7 0).setWidth 8, (slice w 15 8).setWidth 8, (slice w 23 16).setWidth 8, (slice w 31 24).setWidth 8]

/-- The vendor string: EBX, EDX, ECX of function 0000_0000h or 8000_0000h (R61). -/
def vendorString (ebx ecx edx : Word) : List Byte := stringBytes ebx ++ stringBytes edx ++ stringBytes ecx

/-- Sixteen bytes of the name string: EAX, EBX, ECX, EDX of one of functions 8000_0002h to 8000_0004h (R61). -/
def namePart (eax ebx ecx edx : Word) : List Byte :=
  stringBytes eax ++ stringBytes ebx ++ stringBytes ecx ++ stringBytes edx

/-- An associativity as the ValidValues tables name it. -/
inductive Associativity where
  | reserved
  | disabled
  | ways (n : Nat)
  | full
deriving DecidableEq, Repr

/-- The 8-bit code of L1DcAssoc, which the L1 TLB fields share (R243, R241). -/
def l1Associativity (code : BitVec 8) : Associativity :=
  if code = 0x00#8 then .reserved else if code = 0xFF#8 then .full else .ways code.toNat

/-- The 4-bit code of L2Assoc, which the 1 GB TLB fields share (R248, R281, C10). -/
def l2Associativity (code : BitVec 4) : Associativity :=
  match code.toNat with
  | 0 => .disabled
  | 1 => .ways 1
  | 2 => .ways 2
  | 4 => .ways 4
  | 6 => .ways 8
  | 8 => .ways 16
  | 10 => .ways 32
  | 11 => .ways 48
  | 12 => .ways 64
  | 13 => .ways 96
  | 14 => .ways 128
  | 15 => .full
  | _ => .reserved

/-- The 4-bit code of L2DTlb2and4MAssoc (R246, C10). -/
def l2DTlb2and4MAssociativity (code : BitVec 4) : Associativity :=
  if code = 2#4 then .ways 2 else if code = 3#4 then .ways 3 else .reserved

/-- The 4-bit code of L2DTlb4KAssoc (R247, C10). -/
def l2DTlb4KAssociativity (code : BitVec 4) : Associativity :=
  if code = 5#4 then .ways 6 else if code = 6#4 then .ways 8 else .reserved

/-- The 4-bit code of L2ITlb2and4MAssoc and L2ITlb4KAssoc (R246, R247). -/
def l2ITlbAssociativity (code : BitVec 4) : Associativity :=
  if code = 6#4 then .ways 8 else .reserved

/-- The 4-bit code of L3Assoc (R249). -/
def l3Associativity (code : BitVec 4) : Associativity :=
  match code.toNat with
  | 8 => .ways 16
  | 10 => .ways 32
  | 11 => .ways 48
  | 12 => .ways 64
  | 13 => .ways 96
  | 14 => .ways 128
  | _ => .reserved

/-- The size in KB that the code of L2Size stands for (R248). -/
def l2SizeKB (code : BitVec 16) : Option Nat :=
  if code = 0x0100#16 then some 256 else if code = 0x0200#16 then some 512 else if code = 0x0400#16 then some 1024
  else if code = 0x0800#16 then some 2048 else none

/-- What a subleaf of function 8000_001Dh describes (R292). -/
inductive CacheType where
  | null
  | data
  | instruction
  | unified
  | reserved
deriving DecidableEq, Repr

/-- CacheType, bits 4:0 of the EAX of function 8000_001Dh (R292). -/
def cacheTypeOf (eax : Word) : CacheType :=
  match (slice eax 4 0).toNat with
  | 0 => .null
  | 1 => .data
  | 2 => .instruction
  | 3 => .unified
  | _ => .reserved

/-- CacheLevel, bits 7:5, where the code is not reserved (R292). -/
def cacheLevelOf (eax : Word) : Option Nat :=
  let n := (slice eax 7 5).toNat
  if 1 ≤ n ∧ n ≤ 3 then some n else none

/-- Nodes per processor, from the ECX of function 8000_001Eh (R315). -/
def nodesOf (ecx : Word) : Option Nat :=
  match (slice ecx 10 8).toNat with
  | 0 => some 1
  | 1 => some 2
  | 3 => some 4
  | _ => none

/-- The guest's physical address size in bits, from the EAX of function 8000_0008h (R256). -/
def guestPhysAddrSize (eax : Word) : Nat :=
  if slice eax 23 16 = 0#32 then (slice eax 7 0).toNat else (slice eax 23 16).toNat

/-- The physical address size in bits with memory encryption enabled, from the EAX of function 8000_0008h and the EBX of
function 8000_001Fh (R65, R256, R318). -/
def encryptedPhysAddrSize (eax ebx : Word) : Nat := (slice eax 7 0).toNat - (slice ebx 11 6).toNat

end Sys2Proof.Machine
end

