-- ==== Sys2Proof/Machine/RegisterIndex.lean ====
section
/-! DEFINITION. The index of the registers as the source prints it (R24, R89): mnemonic, access type, and the whole-register
reset with its unknown digits masked out. No value of the model is computed from it: statements hold the values against it. -/

namespace Sys2Proof.Machine

/-- The mnemonic of a register in the namespace Core::X86::Cpuid:: (R24, R89). -/
def coreName (i : Instr) : String :=
  match i with
  | .cpuid => "CPUID"
  | .fn00000000_EAX => "LargFuncNum"
  | .fn00000000_EBX => "ProcVendEbx"
  | .fn00000000_ECX => "ProcVendEcx"
  | .fn00000000_EDX => "ProcVendEdx"
  | .fn00000001_EAX => "FamModStep"
  | .fn00000001_EBX => "FeatureIdEbx"
  | .fn00000001_ECX => "FeatureIdEcx"
  | .fn00000001_EDX => "FeatureIdEdx"
  | .fn00000005_EAX => "MonMWaitEax"
  | .fn00000005_EBX => "MonMWaitEbx"
  | .fn00000005_ECX => "MonMWaitEcx"
  | .fn00000005_EDX => "MonMWaitEdx"
  | .fn00000006_EAX => "ThermalPwrMgmtEax"
  | .fn00000006_EBX => "ThermalPwrMgmtEbx"
  | .fn00000006_ECX => "ThermalPwrMgmtEcx"
  | .fn00000006_EDX => "ThermalPwrMgmtEdx"
  | .fn00000007_EAX_x00 => "StructExtFeatIdEax0"
  | .fn00000007_EBX_x00 => "StructExtFeatIdEbx0"
  | .fn00000007_ECX_x00 => "StructExtFeatIdEcx0"
  | .fn00000007_EDX_x00 => "StructExtFeatIdEdx0"
  | .fn0000000B_EAX => "ExtTopEnumEax"
  | .fn0000000B_EBX => "ExtTopEnumEbx"
  | .fn0000000B_ECX => "ExtTopEnumEcx"
  | .fn0000000B_EDX => "ExtTopEnumEdx"
  | .fn0000000D_EAX_x00 => "ProcExtStateEnumEax00"
  | .fn0000000D_EBX_x00 => "ProcExtStateEnumEbx00"
  | .fn0000000D_ECX_x00 => "ProcExtStateEnumEcx00"
  | .fn0000000D_EDX_x00 => "ProcExtStateEnumEdx00"
  | .fn0000000D_EAX_x01 => "ProcExtStateEnumEax01"
  | .fn0000000D_EBX_x01 => "ProcExtStateEnumEbx01"
  | .fn0000000D_ECX_x01 => "ProcExtStateEnumEcx01"
  | .fn0000000D_EDX_x01 => "ProcExtStateEnumEdx01"
  | .fn0000000D_EAX_x02 => "ProcExtStateEnumEax02"
  | .fn0000000D_EBX_x02 => "ProcExtStateEnumEbx02"
  | .fn0000000D_ECX_x02 => "ProcExtStateEnumEcx02"
  | .fn0000000D_EDX_x02 => "ProcExtStateEnumEdx02"
  | .fn80000000_EAX => "LargExtFuncNum"
  | .fn80000000_EBX => "ProcVendExtEbx"
  | .fn80000000_ECX => "ProcVendExtEcx"
  | .fn80000000_EDX => "ProcVendExtEdx"
  | .fn80000001_EAX => "FamModStepExt"
  | .fn80000001_EBX => "BrandId"
  | .fn80000001_ECX => "FeatureExtIdEcx"
  | .fn80000001_EDX => "FeatureExtIdEdx"
  | .fn80000002_EAX => "ProcNameStr0Eax"
  | .fn80000002_EBX => "ProcNameStr0Ebx"
  | .fn80000002_ECX => "ProcNameStr0Ecx"
  | .fn80000002_EDX => "ProcNameStr0Edx"
  | .fn80000003_EAX => "ProcNameStr1Eax"
  | .fn80000003_EBX => "ProcNameStr1Ebx"
  | .fn80000003_ECX => "ProcNameStr1Ecx"
  | .fn80000003_EDX => "ProcNameStr1Edx"
  | .fn80000004_EAX => "ProcNameStr2Eax"
  | .fn80000004_EBX => "ProcNameStr2Ebx"
  | .fn80000004_ECX => "ProcNameStr2Ecx"
  | .fn80000004_EDX => "ProcNameStr2Edx"
  | .fn80000005_EAX => "L1Tlb2M4M"
  | .fn80000005_EBX => "L1Tlb4K"
  | .fn80000005_ECX => "L1DcId"
  | .fn80000005_EDX => "L1IcId"
  | .fn80000006_EAX => "L2Tlb2M4M"
  | .fn80000006_EBX => "L2Tlb4K"
  | .fn80000006_ECX => "L2CacheId"
  | .fn80000006_EDX => "L3CacheId"
  | .fn80000007_EAX => "ProcFeedbackCap"
  | .fn80000007_EBX => "RasCap"
  | .fn80000007_ECX => "ApmInfoEcx"
  | .fn80000007_EDX => "ApmInfoEdx"
  | .fn80000008_EAX => "LongModeInfo"
  | .fn80000008_EBX => "FeatureExtIdEbx"
  | .fn80000008_ECX => "SizeId"
  | .fn8000000A_EAX => "SvmRevFeatIdEax"
  | .fn8000000A_EBX => "SvmRevFeatIdEbx"
  | .fn8000000A_EDX => "SvmRevFeatIdEdx"
  | .fn80000019_EAX => "L1Tlb1G"
  | .fn80000019_EBX => "L2Tlb1G"
  | .fn8000001A_EAX => "PerfOptId"
  | .fn8000001B_EAX => "IbsIdEax"
  | .fn8000001D_EAX_x00 => "CachePropEax0"
  | .fn8000001D_EAX_x01 => "CachePropEax1"
  | .fn8000001D_EAX_x02 => "CachePropEax2"
  | .fn8000001D_EAX_x03 => "CachePropEax3"
  | .fn8000001D_EAX_x04 => "CachePropEax4"
  | .fn8000001D_EBX_x00 => "CachePropEbx0"
  | .fn8000001D_EBX_x01 => "CachePropEbx1"
  | .fn8000001D_EBX_x02 => "CachePropEbx2"
  | .fn8000001D_EBX_x03 => "CachePropEbx3"
  | .fn8000001D_EBX_x04 => "CachePropEbx4"
  | .fn8000001D_ECX_x00 => "CachePropEcx0"
  | .fn8000001D_ECX_x01 => "CachePropEcx1"
  | .fn8000001D_ECX_x02 => "CachePropEcx2"
  | .fn8000001D_ECX_x03 => "CachePropEcx3"
  | .fn8000001D_ECX_x04 => "CachePropEcx4"
  | .fn8000001D_EDX_x00 => "CachePropEdx0"
  | .fn8000001D_EDX_x01 => "CachePropEdx1"
  | .fn8000001D_EDX_x02 => "CachePropEdx2"
  | .fn8000001D_EDX_x03 => "CachePropEdx3"
  | .fn8000001D_EDX_x04 => "CachePropEdx4"
  | .fn8000001E_EAX => "ExtApicId"
  | .fn8000001E_EBX => "CoreId"
  | .fn8000001E_ECX => "NodeId"
  | .fn8000001F_EAX => "SecureEncryptionEax"
  | .fn8000001F_EBX => "SecureEncryptionEbx"
  | .fn8000001F_ECX => "SecureEncryptionEcx"
  | .fn8000001F_EDX => "SecureEncryptionEdx"

/-- The access type as printed (R24, R106). -/
def printedAccess (i : Instr) : Access :=
  match i with
  | .cpuid => .nonePrinted
  | .fn00000000_EAX => .readOnly
  | .fn00000000_EBX => .readOnly
  | .fn00000000_ECX => .readOnly
  | .fn00000000_EDX => .readOnly
  | .fn00000001_EAX => .readOnly
  | .fn00000001_EBX => .readOnly
  | .fn00000001_ECX => .readOnly
  | .fn00000001_EDX => .readOnly
  | .fn00000005_EAX => .readOnly
  | .fn00000005_EBX => .readOnly
  | .fn00000005_ECX => .readOnly
  | .fn00000005_EDX => .readOnly
  | .fn00000006_EAX => .readOnly
  | .fn00000006_EBX => .nonePrinted
  | .fn00000006_ECX => .readOnly
  | .fn00000006_EDX => .nonePrinted
  | .fn00000007_EAX_x00 => .readOnly
  | .fn00000007_EBX_x00 => .readOnly
  | .fn00000007_ECX_x00 => .nonePrinted
  | .fn00000007_EDX_x00 => .nonePrinted
  | .fn0000000B_EAX => .readOnly
  | .fn0000000B_EBX => .readOnly
  | .fn0000000B_ECX => .readOnly
  | .fn0000000B_EDX => .readOnly
  | .fn0000000D_EAX_x00 => .readOnly
  | .fn0000000D_EBX_x00 => .readOnlyVolatile
  | .fn0000000D_ECX_x00 => .readOnly
  | .fn0000000D_EDX_x00 => .readOnly
  | .fn0000000D_EAX_x01 => .readOnly
  | .fn0000000D_EBX_x01 => .readOnlyVolatile
  | .fn0000000D_ECX_x01 => .readOnly
  | .fn0000000D_EDX_x01 => .readOnly
  | .fn0000000D_EAX_x02 => .readOnly
  | .fn0000000D_EBX_x02 => .readOnly
  | .fn0000000D_ECX_x02 => .readOnly
  | .fn0000000D_EDX_x02 => .readOnly
  | .fn80000000_EAX => .readOnly
  | .fn80000000_EBX => .readOnly
  | .fn80000000_ECX => .readOnly
  | .fn80000000_EDX => .readOnly
  | .fn80000001_EAX => .readOnly
  | .fn80000001_EBX => .readOnly
  | .fn80000001_ECX => .readOnly
  | .fn80000001_EDX => .readOnly
  | .fn80000002_EAX => .readOnly
  | .fn80000002_EBX => .readOnly
  | .fn80000002_ECX => .readOnly
  | .fn80000002_EDX => .readOnly
  | .fn80000003_EAX => .readOnly
  | .fn80000003_EBX => .readOnly
  | .fn80000003_ECX => .readOnly
  | .fn80000003_EDX => .readOnly
  | .fn80000004_EAX => .readOnly
  | .fn80000004_EBX => .readOnly
  | .fn80000004_ECX => .readOnly
  | .fn80000004_EDX => .readOnly
  | .fn80000005_EAX => .readOnly
  | .fn80000005_EBX => .readOnly
  | .fn80000005_ECX => .readOnly
  | .fn80000005_EDX => .readOnly
  | .fn80000006_EAX => .readOnly
  | .fn80000006_EBX => .readOnly
  | .fn80000006_ECX => .readOnly
  | .fn80000006_EDX => .readOnly
  | .fn80000007_EAX => .readOnly
  | .fn80000007_EBX => .readOnly
  | .fn80000007_ECX => .readOnly
  | .fn80000007_EDX => .readOnly
  | .fn80000008_EAX => .readOnly
  | .fn80000008_EBX => .readOnly
  | .fn80000008_ECX => .readOnly
  | .fn8000000A_EAX => .readOnly
  | .fn8000000A_EBX => .readOnlyVolatile
  | .fn8000000A_EDX => .readOnly
  | .fn80000019_EAX => .readOnly
  | .fn80000019_EBX => .readOnly
  | .fn8000001A_EAX => .readOnly
  | .fn8000001B_EAX => .readOnly
  | .fn8000001D_EAX_x00 => .nonePrinted
  | .fn8000001D_EAX_x01 => .readOnly
  | .fn8000001D_EAX_x02 => .readOnly
  | .fn8000001D_EAX_x03 => .readOnly
  | .fn8000001D_EAX_x04 => .readOnly
  | .fn8000001D_EBX_x00 => .readOnly
  | .fn8000001D_EBX_x01 => .readOnly
  | .fn8000001D_EBX_x02 => .readOnly
  | .fn8000001D_EBX_x03 => .readOnly
  | .fn8000001D_EBX_x04 => .readOnly
  | .fn8000001D_ECX_x00 => .readOnly
  | .fn8000001D_ECX_x01 => .readOnly
  | .fn8000001D_ECX_x02 => .readOnly
  | .fn8000001D_ECX_x03 => .readOnly
  | .fn8000001D_ECX_x04 => .readOnly
  | .fn8000001D_EDX_x00 => .readOnly
  | .fn8000001D_EDX_x01 => .readOnly
  | .fn8000001D_EDX_x02 => .readOnly
  | .fn8000001D_EDX_x03 => .readOnly
  | .fn8000001D_EDX_x04 => .readOnly
  | .fn8000001E_EAX => .readOnly
  | .fn8000001E_EBX => .readOnly
  | .fn8000001E_ECX => .readOnly
  | .fn8000001F_EAX => .readOnly
  | .fn8000001F_EBX => .readOnly
  | .fn8000001F_ECX => .readOnly
  | .fn8000001F_EDX => .readOnly

/-- The whole-register reset as printed: the mask of its known digits and their value (R24, R105, R370). `none` where the source
prints none. -/
def printedReset (i : Instr) : Option (Word × Word) :=
  match i with
  | .cpuid => none
  | .fn00000000_EAX => some (0xFFFFFFFF#32, 0x0000000D#32)
  | .fn00000000_EBX => some (0xFFFFFFFF#32, 0x68747541#32)
  | .fn00000000_ECX => some (0xFFFFFFFF#32, 0x444D4163#32)
  | .fn00000000_EDX => some (0xFFFFFFFF#32, 0x69746E65#32)
  | .fn00000001_EAX => some (0xFFFFFF0F#32, 0x00800F02#32)
  | .fn00000001_EBX => none
  | .fn00000001_ECX => none
  | .fn00000001_EDX => none
  | .fn00000005_EAX => some (0xFFFFFFFF#32, 0x00000040#32)
  | .fn00000005_EBX => some (0xFFFFFFFF#32, 0x00000040#32)
  | .fn00000005_ECX => some (0xFFFFFFFF#32, 0x00000003#32)
  | .fn00000005_EDX => some (0xFFFFFFFF#32, 0x00000011#32)
  | .fn00000006_EAX => some (0xFFFFFFFF#32, 0x00000004#32)
  | .fn00000006_EBX => none
  | .fn00000006_ECX => some (0xFFFFFFFF#32, 0x00000001#32)
  | .fn00000006_EDX => none
  | .fn00000007_EAX_x00 => some (0xFFFFFFFF#32, 0x00000000#32)
  | .fn00000007_EBX_x00 => some (0xFFFFFFFF#32, 0x209C01A9#32)
  | .fn00000007_ECX_x00 => none
  | .fn00000007_EDX_x00 => none
  | .fn0000000B_EAX => some (0xFFFFFFFF#32, 0x00000000#32)
  | .fn0000000B_EBX => some (0xFFFFFFFF#32, 0x00000000#32)
  | .fn0000000B_ECX => some (0xFFFFFFFF#32, 0x00000000#32)
  | .fn0000000B_EDX => some (0xFFFFFFFF#32, 0x00000000#32)
  | .fn0000000D_EAX_x00 => some (0xFFFFFFFF#32, 0x00000007#32)
  | .fn0000000D_EBX_x00 => some (0x00000000#32, 0x00000000#32)
  | .fn0000000D_ECX_x00 => some (0x00000000#32, 0x00000000#32)
  | .fn0000000D_EDX_x00 => some (0xFFFFFFFF#32, 0x00000000#32)
  | .fn0000000D_EAX_x01 => some (0xFFFFFFFF#32, 0x0000000F#32)
  | .fn0000000D_EBX_x01 => some (0x00000000#32, 0x00000000#32)
  | .fn0000000D_ECX_x01 => some (0xFFFFFFFF#32, 0x00000000#32)
  | .fn0000000D_EDX_x01 => some (0xFFFFFFFF#32, 0x00000000#32)
  | .fn0000000D_EAX_x02 => some (0xFFFFFFFF#32, 0x00000100#32)
  | .fn0000000D_EBX_x02 => some (0xFFFFFFFF#32, 0x00000240#32)
  | .fn0000000D_ECX_x02 => some (0xFFFFFFFF#32, 0x00000000#32)
  | .fn0000000D_EDX_x02 => some (0xFFFFFFFF#32, 0x00000000#32)
  | .fn80000000_EAX => some (0xFFFFFFFF#32, 0x8000001F#32)
  | .fn80000000_EBX => some (0xFFFFFFFF#32, 0x68747541#32)
  | .fn80000000_ECX => some (0xFFFFFFFF#32, 0x444D4163#32)
  | .fn80000000_EDX => some (0xFFFFFFFF#32, 0x69746E65#32)
  | .fn80000001_EAX => some (0xFFFFFF0F#32, 0x00800F02#32)
  | .fn80000001_EBX => some (0x0FFFFFFF#32, 0x00000000#32)
  | .fn80000001_ECX => none
  | .fn80000001_EDX => some (0xFFFFF0FF#32, 0x2FD3F0FF#32)
  | .fn80000002_EAX => none
  | .fn80000002_EBX => none
  | .fn80000002_ECX => none
  | .fn80000002_EDX => none
  | .fn80000003_EAX => none
  | .fn80000003_EBX => none
  | .fn80000003_ECX => none
  | .fn80000003_EDX => none
  | .fn80000004_EAX => none
  | .fn80000004_EBX => none
  | .fn80000004_ECX => none
  | .fn80000004_EDX => none
  | .fn80000005_EAX => none
  | .fn80000005_EBX => none
  | .fn80000005_ECX => none
  | .fn80000005_EDX => none
  | .fn80000006_EAX => none
  | .fn80000006_EBX => none
  | .fn80000006_ECX => none
  | .fn80000006_EDX => none
  | .fn80000007_EAX => some (0xFFFFFFFF#32, 0x00000000#32)
  | .fn80000007_EBX => some (0xFFFFFFF0#32, 0x00000000#32)
  | .fn80000007_ECX => some (0xFFFFFFFF#32, 0x00000000#32)
  | .fn80000007_EDX => some (0xFFFFFFFF#32, 0x00006789#32)
  | .fn80000008_EAX => some (0xFFFFFFFF#32, 0x00003030#32)
  | .fn80000008_EBX => some (0xFFFFFFFF#32, 0x00000007#32)
  | .fn80000008_ECX => some (0xFFFF0F00#32, 0x00000000#32)
  | .fn8000000A_EAX => some (0xFFFFFFFF#32, 0x00000001#32)
  | .fn8000000A_EBX => some (0xFFFFFFFF#32, 0x00008000#32)
  | .fn8000000A_EDX => some (0xFFFFFFFF#32, 0x0001B4FF#32)
  | .fn80000019_EAX => none
  | .fn80000019_EBX => some (0xFFFFFFFF#32, 0x00000000#32)
  | .fn8000001A_EAX => some (0xFFFFFFFF#32, 0x00000003#32)
  | .fn8000001B_EAX => some (0xFFFFFFFF#32, 0x000003FF#32)
  | .fn8000001D_EAX_x00 => none
  | .fn8000001D_EAX_x01 => some (0xF0000FFF#32, 0x00000122#32)
  | .fn8000001D_EAX_x02 => some (0xF0000FFF#32, 0x00000143#32)
  | .fn8000001D_EAX_x03 => some (0xF0000FFF#32, 0x00000163#32)
  | .fn8000001D_EAX_x04 => some (0xFFFFFFFF#32, 0x00000000#32)
  | .fn8000001D_EBX_x00 => some (0xFFFFFFFF#32, 0x01C0003F#32)
  | .fn8000001D_EBX_x01 => some (0xFFFFFFFF#32, 0x00C0003F#32)
  | .fn8000001D_EBX_x02 => some (0xFFFFFFFF#32, 0x01C0003F#32)
  | .fn8000001D_EBX_x03 => some (0xFFFFFFFF#32, 0x03C0003F#32)
  | .fn8000001D_EBX_x04 => some (0xFFFFFFFF#32, 0x00000000#32)
  | .fn8000001D_ECX_x00 => some (0xFFFFFFFF#32, 0x0000003F#32)
  | .fn8000001D_ECX_x01 => some (0xFFFFFFFF#32, 0x000000FF#32)
  | .fn8000001D_ECX_x02 => some (0xFFFFFFFF#32, 0x000003FF#32)
  | .fn8000001D_ECX_x03 => some (0xFFFF0000#32, 0x00000000#32)
  | .fn8000001D_ECX_x04 => some (0xFFFFFFFF#32, 0x00000000#32)
  | .fn8000001D_EDX_x00 => some (0xFFFFFFFF#32, 0x00000000#32)
  | .fn8000001D_EDX_x01 => some (0xFFFFFFFF#32, 0x00000000#32)
  | .fn8000001D_EDX_x02 => some (0xFFFFFFFF#32, 0x00000002#32)
  | .fn8000001D_EDX_x03 => some (0xFFFFFFFF#32, 0x00000001#32)
  | .fn8000001D_EDX_x04 => some (0xFFFFFFFF#32, 0x00000000#32)
  | .fn8000001E_EAX => none
  | .fn8000001E_EBX => some (0xFFFF0000#32, 0x00000000#32)
  | .fn8000001E_ECX => some (0xFFFFF000#32, 0x00000000#32)
  | .fn8000001F_EAX => some (0xFFFFFFFF#32, 0x0000000F#32)
  | .fn8000001F_EBX => some (0xFFFFFFFF#32, 0x0000016F#32)
  | .fn8000001F_ECX => some (0xFFFFFFFF#32, 0x0000000F#32)
  | .fn8000001F_EDX => some (0xFFFFFFF0#32, 0x00000000#32)

/-- Whether the register has one instance per core instead of one per thread (R20, R24). -/
def perCore (i : Instr) : Bool :=
  match i with
  | .fn8000001D_EAX_x00 => true
  | _ => false

end Sys2Proof.Machine
end

