-- ==== Sys2Proof/Safety.lean ====
section
/-! DEFINITION. What the statements call a good state and an unchanged one. -/

namespace Sys2Proof.Machine

/-- The executing thread can run: the configuration is one the spec describes (R8, D24), and the thread exists (R20). -/
def State.Ready (s : State) : Prop :=
  s.params.wellFormed = true ∧ (s.params.threadParams s.current).present = true

/-- No override MSR of the executing thread was written: "a run of the model is a run in which no override MSR is written" (R109). -/
def State.NoOverride (s : State) : Prop := s.self.overrides = Overrides.none

/-- The instruction pointer is a number modulo 2^`P.PcWidth` (R22). -/
def pcFits (w : PcWidth) (pc : QWord) : Prop := wrapPc w pc = pc

/-- The invariant of the machine: a configuration the spec describes (R8), instruction memory in canonical form, and every
thread's pc within `P.PcWidth` bits (R22). -/
def State.Inv (s : State) : Prop :=
  s.params.wellFormed = true ∧ s.mem.wf = true ∧ ∀ i : Fin 16, pcFits s.params.pcWidth (s.harts.get i).pc

/-- Everything but thread `t`'s own state is the same: the configuration, memory, the schedule, and every other thread. -/
def OnlyThread (t : ThreadId) (s s' : State) : Prop :=
  s'.params = s.params ∧ s'.mem = s.mem ∧ s'.current = s.current ∧ s'.agenda = s.agenda ∧
    ∀ u : ThreadId, u ≠ t → s'.hart u = s.hart u

/-- The executing thread's EAX and ECX select this row (R82, R90). -/
def State.Selects (s : State) (i : Instr) : Prop :=
  ∃ sel : Selector, i.selector = some sel ∧ sel.accepts s.self.functionIn s.self.subleafIn = true

/-- `i` names the register that EAX_in = `fn` (and ECX_in = `sub`, where the name has a subleaf) writes to `out`, and with these
inputs the row completes: `out` receives `w`, and that is all. -/
def RowWrites (s : State) (i : Instr) (fn : Word) (sub : Option Word) (out : Gpr) (w : Word) : Prop :=
  s.self.functionIn = fn → (∀ x, sub = some x → s.self.subleafIn = x) → exec i s = .next (s.writeOutput out w)

/-- One column of a leaf of R101: the value of the register of its rule, or, where the column says "unlisted", `Unlisted`. -/
def Snapshot.column (v : Snapshot) (out : Gpr) : Option Instr → Word
  | some i => rowValue i v
  | none => v.unlisted out

/-- What one row of the leaf table of R101 says: for function `fn`, and subleaf `sub` where the row gives one, the four outputs
are these registers' values. -/
def LeafReads (fn : Word) (sub : Option Word) (a b c d : Option Instr) : Prop :=
  ∀ v : Snapshot, v.fn = fn → (∀ x, sub = some x → v.sub = x) →
    v.leafOutput .eax = v.column .eax a ∧ v.leafOutput .ebx = v.column .ebx b ∧ v.leafOutput .ecx = v.column .ecx c ∧
      v.leafOutput .edx = v.column .edx d

/-- Go on from a next state; stop where the outcome is a stop. -/
def andThen (o : Host.Outcome State Fault Refusal) (k : State → Host.Outcome State Fault Refusal) :
    Host.Outcome State Fault Refusal :=
  match o with
  | .next s => k s
  | .fault f => .fault f
  | .refused r => .refused r

/-- `n` steps, as far as each one answers a next state. -/
def stepN : Nat → State → Host.Outcome State Fault Refusal
  | 0, s => .next s
  | n + 1, s => andThen (step s) (stepN n)

/-- The inputs thread `t` has after these moves: every change of one of its inputs is made, in order (R376, D26). -/
def inputsAfter (t : ThreadId) : List Move → Inputs → Inputs
  | [], i => i
  | .run _ :: ms, i => inputsAfter t ms i
  | .change u ch :: ms, i => inputsAfter t ms (if u = t then i.change ch else i)

end Sys2Proof.Machine
end

