-- ==== Sys2Proof/Certificates/Slice0/Obligations.lean ====
section
/-! DEFINITION. The statements about the model, in the order of OBLIGATIONS.json. -/

open Sys2Proof Sys2Proof.Machine

/-- O1. Decoding and encoding agree on every row, at every encoding it has (R80, R82, R86, R90, R102). For every row i of the
opcode table: the encoder gives a code that decodes to i; and a code decodes to i exactly if it is an encoding of i: for
CPUID the two bytes 0Fh A2h and no other bytes; for a register row every point of the selector space whose output register
and function are the row's and whose subleaf, where the name of the row has one, is that subleaf (all 32 bits), any subleaf
where it has none. -/
def Obligations.EncodeDecodeAgree : Prop :=
  ∀ i : Instr,
    decodeCode (encode i) = some i ∧
    ∀ c : Code, decodeCode c = some i ↔
      match i.selector with
      | none => c = .bytes [0x0F#8, 0xA2#8]
      | some sel => ∃ p : Point, c = .point p ∧ p.out = sel.out ∧ p.fn = sel.fn ∧ ∀ x, sel.sub = some x → p.sub = x

/-- O2. Leaf(t, fn, sub) is the row of the leaf table of R101, and Unlisted where there is none (R101). The 29 rows of the
table of R101, written out: for a snapshot with that function (and subleaf, where the row gives one) the four outputs are the
values of the registers the row names, and Unlisted where a column says unlisted; the table has 29 rows and no two rows match
the same (fn, sub); where no row matches, all four outputs are Unlisted, the free value (log 3). -/
def Obligations.LeafTableOfR101 : Prop :=
  LeafReads 0x0#32 none (some .fn00000000_EAX) (some .fn00000000_EBX) (some .fn00000000_ECX) (some .fn00000000_EDX) ∧
    LeafReads 0x1#32 none (some .fn00000001_EAX) (some .fn00000001_EBX) (some .fn00000001_ECX) (some .fn00000001_EDX) ∧
    LeafReads 0x5#32 none (some .fn00000005_EAX) (some .fn00000005_EBX) (some .fn00000005_ECX) (some .fn00000005_EDX) ∧
    LeafReads 0x6#32 none (some .fn00000006_EAX) (some .fn00000006_EBX) (some .fn00000006_ECX) (some .fn00000006_EDX) ∧
    LeafReads 0x7#32 (some 0#32) (some .fn00000007_EAX_x00) (some .fn00000007_EBX_x00) (some .fn00000007_ECX_x00) (some
      .fn00000007_EDX_x00) ∧
    LeafReads 0xB#32 none (some .fn0000000B_EAX) (some .fn0000000B_EBX) (some .fn0000000B_ECX) (some .fn0000000B_EDX) ∧
    LeafReads 0xD#32 (some 0#32) (some .fn0000000D_EAX_x00) (some .fn0000000D_EBX_x00) (some .fn0000000D_ECX_x00) (some
      .fn0000000D_EDX_x00) ∧
    LeafReads 0xD#32 (some 1#32) (some .fn0000000D_EAX_x01) (some .fn0000000D_EBX_x01) (some .fn0000000D_ECX_x01) (some
      .fn0000000D_EDX_x01) ∧
    LeafReads 0xD#32 (some 2#32) (some .fn0000000D_EAX_x02) (some .fn0000000D_EBX_x02) (some .fn0000000D_ECX_x02) (some
      .fn0000000D_EDX_x02) ∧
    LeafReads 0x80000000#32 none (some .fn80000000_EAX) (some .fn80000000_EBX) (some .fn80000000_ECX) (some
      .fn80000000_EDX) ∧
    LeafReads 0x80000001#32 none (some .fn80000001_EAX) (some .fn80000001_EBX) (some .fn80000001_ECX) (some
      .fn80000001_EDX) ∧
    LeafReads 0x80000002#32 none (some .fn80000002_EAX) (some .fn80000002_EBX) (some .fn80000002_ECX) (some
      .fn80000002_EDX) ∧
    LeafReads 0x80000003#32 none (some .fn80000003_EAX) (some .fn80000003_EBX) (some .fn80000003_ECX) (some
      .fn80000003_EDX) ∧
    LeafReads 0x80000004#32 none (some .fn80000004_EAX) (some .fn80000004_EBX) (some .fn80000004_ECX) (some
      .fn80000004_EDX) ∧
    LeafReads 0x80000005#32 none (some .fn80000005_EAX) (some .fn80000005_EBX) (some .fn80000005_ECX) (some
      .fn80000005_EDX) ∧
    LeafReads 0x80000006#32 none (some .fn80000006_EAX) (some .fn80000006_EBX) (some .fn80000006_ECX) (some
      .fn80000006_EDX) ∧
    LeafReads 0x80000007#32 none (some .fn80000007_EAX) (some .fn80000007_EBX) (some .fn80000007_ECX) (some
      .fn80000007_EDX) ∧
    LeafReads 0x80000008#32 none (some .fn80000008_EAX) (some .fn80000008_EBX) (some .fn80000008_ECX) none ∧
    LeafReads 0x8000000A#32 none (some .fn8000000A_EAX) (some .fn8000000A_EBX) none (some .fn8000000A_EDX) ∧
    LeafReads 0x80000019#32 none (some .fn80000019_EAX) (some .fn80000019_EBX) none none ∧
    LeafReads 0x8000001A#32 none (some .fn8000001A_EAX) none none none ∧
    LeafReads 0x8000001B#32 none (some .fn8000001B_EAX) none none none ∧
    LeafReads 0x8000001D#32 (some 0#32) (some .fn8000001D_EAX_x00) (some .fn8000001D_EBX_x00) (some .fn8000001D_ECX_x00)
      (some .fn8000001D_EDX_x00) ∧
    LeafReads 0x8000001D#32 (some 1#32) (some .fn8000001D_EAX_x01) (some .fn8000001D_EBX_x01) (some .fn8000001D_ECX_x01)
      (some .fn8000001D_EDX_x01) ∧
    LeafReads 0x8000001D#32 (some 2#32) (some .fn8000001D_EAX_x02) (some .fn8000001D_EBX_x02) (some .fn8000001D_ECX_x02)
      (some .fn8000001D_EDX_x02) ∧
    LeafReads 0x8000001D#32 (some 3#32) (some .fn8000001D_EAX_x03) (some .fn8000001D_EBX_x03) (some .fn8000001D_ECX_x03)
      (some .fn8000001D_EDX_x03) ∧
    LeafReads 0x8000001D#32 (some 4#32) (some .fn8000001D_EAX_x04) (some .fn8000001D_EBX_x04) (some .fn8000001D_ECX_x04)
      (some .fn8000001D_EDX_x04) ∧
    LeafReads 0x8000001E#32 none (some .fn8000001E_EAX) (some .fn8000001E_EBX) (some .fn8000001E_ECX) none ∧
    LeafReads 0x8000001F#32 none (some .fn8000001F_EAX) (some .fn8000001F_EBX) (some .fn8000001F_ECX) (some
      .fn8000001F_EDX) ∧
    leafTable.length = 29 ∧
    (∀ fn sub : Word, (leafTable.filter (fun lf => lf.matches fn sub)).length ≤ 1) ∧
    (∀ (v : Snapshot) (out : Gpr), (∀ lf ∈ leafTable, lf.matches v.fn v.sub = false) → v.leafOutput out = v.unlisted out)

/-- O3. Functions whose register names carry no suffix ignore ECX_in (R102, 92_eei_decisions.md D8). For every function
number but 0000_0007h, 0000_000Dh and 8000_001Dh, every two values of ECX_in select the same register for each output; and
function 0000_000Bh gives 0000_0000h in all four outputs whatever ECX_in is. The source never says so in words: it is the
spec's decision D8, an inference (log 19, DEDUCED). -/
def Obligations.SubleafIgnoredWithoutSuffix : Prop :=
  (∀ (fn sub sub' : Word) (out : Gpr), fn ≠ 0x7#32 → fn ≠ 0xD#32 → fn ≠ 0x8000001D#32 →
      decodePoint ⟨fn, sub, out⟩ = decodePoint ⟨fn, sub', out⟩) ∧
    (∀ (v : Snapshot) (out : Gpr), v.fn = 0xB#32 → v.leafOutput out = 0#32)

/-- O4. Functions 7, Dh and 8000_001Dh list subleaf 0, subleaves 0 to 2 and subleaves 0 to 4, compared as 32-bit numbers
(R82, R84, R103). For function 0000_0007h an output has a register exactly if ECX_in is 0; for 0000_000Dh exactly if ECX_in
is 0, 1 or 2; for 8000_001Dh exactly if ECX_in is at most 4. The comparison is over all 32 bits. -/
def Obligations.SubleavesCompareAllBits : Prop :=
  ∀ (sub : Word) (out : Gpr),
    ((decodePoint ⟨0x7#32, sub, out⟩).isSome = true ↔ sub = 0#32) ∧
    ((decodePoint ⟨0xD#32, sub, out⟩).isSome = true ↔ sub.toNat ≤ 2) ∧
    ((decodePoint ⟨0x8000001D#32, sub, out⟩).isSome = true ↔ sub.toNat ≤ 4)

/-- O5. Which functions have no register at all (R83, R85). A function number has no register for any subleaf and output
exactly if it is none of the 23 that the source lists: the standard functions 0, 1, 5, 6, 7, Bh, Dh and the extended
functions 8000_0000h to 8000_0008h, 8000_000Ah, 8000_0019h, 8000_001Ah, 8000_001Bh, 8000_001Dh, 8000_001Eh, 8000_001Fh. -/
def Obligations.UnlistedFunctionClasses : Prop :=
  ∀ fn : Word, (∀ (sub : Word) (out : Gpr), decodePoint ⟨fn, sub, out⟩ = none) ↔
    fn ∉ [0x0#32, 0x1#32, 0x5#32, 0x6#32, 0x7#32, 0xB#32, 0xD#32, 0x80000000#32, 0x80000001#32, 0x80000002#32, 0x80000003#32,
      0x80000004#32, 0x80000005#32, 0x80000006#32, 0x80000007#32, 0x80000008#32, 0x8000000A#32, 0x80000019#32, 0x8000001A#32,
      0x8000001B#32, 0x8000001D#32, 0x8000001E#32, 0x8000001F#32]

/-- O6. A few words of the opcode table decode to their rows (R80, R82, R90). A sanity statement: the word 0FA2h of the table
decodes to CPUID; and a row of each family, written out with EAX_in in bits 31:0, ECX_in in bits 63:32 and the output
register in bits 71:64, decodes to that row (the place of the last two is the model's choice, log 2); the words A20Fh and
0FA3h decode to nothing. -/
def Obligations.SampleWordsDecode : Prop :=
  decodeTableWord 16 0x0FA2 = some .cpuid ∧ decodeTableWord 16 0xA20F = none ∧ decodeTableWord 16 0x0FA3 = none ∧
    decodeTableWord 32 0x00000000 = some .fn00000000_EAX ∧
    decodeTableWord 72 0x03_00000000_00000001 = some .fn00000001_EDX ∧
    decodeTableWord 72 0x02_00000002_0000000D = some .fn0000000D_ECX_x02 ∧
    decodeTableWord 72 0x01_00000000_80000003 = some .fn80000003_EBX ∧
    decodeTableWord 72 0x02_00000000_80000006 = some .fn80000006_ECX ∧
    decodeTableWord 72 0x03_00000003_8000001D = some .fn8000001D_EDX_x03 ∧
    decodeTableWord 72 0x00_00000000_8000001F = some .fn8000001F_EAX

/-- O7. CPUID completes: the four outputs of its leaf, pc + 2, and nothing else (R100, R21, R22, R23, R60, R64, R106, R340).
In every ready state CPUID answers a next state in which RAX, RBX, RCX and RDX hold the four outputs of Leaf(t, EAX_in,
ECX_in), zero-extended (bits 63:32 cleared, D3), all computed from one snapshot taken before; pc has advanced by 2 modulo
2^P.PcWidth; rFLAGS, the inputs and the overrides of the thread are as before; every other thread, the configuration, every
byte of memory and the schedule are as before. Where every output has a register and CPUID_Fn80000001_ECX is not replaced,
nothing else of the thread changes either; where Unlisted can be met, the key of the free value, the model's own field, may
change (log 3). -/
def Obligations.CpuidCompletesWithLeaf : Prop :=
  ∀ s : State, s.Ready → ∃ t : State, exec .cpuid s = .next t ∧
    (∀ out : Gpr, t.self.fullGpr out = (s.snapshot.leafOutput out).setWidth 64) ∧
    t.self.pc.toNat = (s.self.pc.toNat + 2) % 2 ^ pcBits s.params.pcWidth ∧
    t.self.rflags = s.self.rflags ∧ t.self.inputs = s.self.inputs ∧ t.self.overrides = s.self.overrides ∧
    ((∀ out : Gpr, (decodePoint ⟨s.self.functionIn, s.self.subleafIn, out⟩).isSome = true) →
      s.self.overrides.featureExtIdEcx = none → t.self.unlistedKey = s.self.unlistedKey) ∧
    OnlyThread s.current s t ∧ (∀ a : Nat, t.mem.readByte a = s.mem.readByte a)

/-- O8. What CPUID writes to a register is what the selected row alone writes there (R90, R100, R101). In every ready state,
for every register row whose selector accepts EAX_in and ECX_in: CPUID and the row alone both answer a next state, and in
both the row's output register holds the row's value in the snapshot taken before. That a row can be run alone is the model's
choice (log 1). -/
def Obligations.CpuidIsItsSelectedRows : Prop :=
  ∀ (s : State) (i : Instr) (sel : Selector), s.Ready → i.selector = some sel →
    sel.accepts s.self.functionIn s.self.subleafIn = true →
    ∃ t t' : State, exec .cpuid s = .next t ∧ exec i s = .next t' ∧
      t.self.fullGpr sel.out = t'.self.fullGpr sel.out ∧ t.self.gpr sel.out = rowValue i s.snapshot

/-- O9. An unlisted selector: CPUID completes and the output is the free value Unlisted (R85, R100, R104, R340). In every
ready state, for every output that has no register at (EAX_in, ECX_in), CPUID answers a next state whose register holds
Unlisted(t, fn, sub, reg), the opaque free value; pc still advances. Nothing is claimed of that value. Which function
Unlisted holds is the key unlistedKey, the model's own field, and the statement holds for every key (log 3). -/
def Obligations.UnlistedOutputIsFree : Prop :=
  ∀ (s : State) (out : Gpr), s.Ready → decodePoint ⟨s.self.functionIn, s.self.subleafIn, out⟩ = none →
    ∃ t : State, exec .cpuid s = .next t ∧ t.self.pc = advancePc s.params.pcWidth s.self.pc 2 ∧
      t.self.gpr out = Config.unlisted s.self.unlistedKey s.current s.self.functionIn s.self.subleafIn out

/-- O10. CPUID depends on EAX and ECX alone of the general registers (R100, R21, 92_eei_decisions.md D3). Two threads' states
that agree in EAX and ECX (bits 31:0), pc, rFLAGS, the inputs, the overrides and the model's key of the free value (log 3),
whatever their other general registers and the upper halves hold, are the same after CPUID, in every ready state: the upper
halves are ignored as inputs and all four registers are overwritten whole. -/
def Obligations.CpuidReadsOnlyLowHalves : Prop :=
  ∀ (s : State) (h h' : Hart), s.Ready → h.functionIn = h'.functionIn → h.subleafIn = h'.subleafIn → h.pc = h'.pc →
    h.rflags = h'.rflags → h.inputs = h'.inputs → h.overrides = h'.overrides → h.unlistedKey = h'.unlistedKey →
    ∃ t : State, exec .cpuid (s.setSelf h) = .next t ∧ exec .cpuid (s.setSelf h') = .next t

/-- O11. A register row whose selector does not match writes nothing (R82, R90). In every ready state, a register row run
alone whose selector does not accept EAX_in and ECX_in answers the same state as next state. It is the model's choice for a
row run alone (log 1): "done by rule R100 when the selector matches". -/
def Obligations.RowNotSelectedWritesNothing : Prop :=
  ∀ (s : State) (i : Instr) (sel : Selector), s.Ready → i.selector = some sel →
    sel.accepts s.self.functionIn s.self.subleafIn = false → exec i s = .next s

/-- O12. Every register row run alone (the model's choice, log 1): frame (R60, R64, R82, R106). A row run alone, which leaves
pc where it is, is the model's choice (log 1, DESIGN CHOICE). Whenever a register row run alone answers a next state: every
general register but the row's output is unchanged at full width, pc, rFLAGS, inputs, overrides and free-value key of the
thread are unchanged, every other thread, the configuration, every byte of memory and the schedule are unchanged, and the
output register is unchanged or holds the row's value zero-extended. -/
def Obligations.RowFrame : Prop :=
  ∀ (s t : State) (i : Instr) (sel : Selector), i.selector = some sel → exec i s = .next t →
    (∀ r : Gpr, r ≠ sel.out → t.self.fullGpr r = s.self.fullGpr r) ∧
    t.self.pc = s.self.pc ∧ t.self.rflags = s.self.rflags ∧ t.self.inputs = s.self.inputs ∧
    t.self.overrides = s.self.overrides ∧ t.self.unlistedKey = s.self.unlistedKey ∧ OnlyThread s.current s t ∧
    (∀ a : Nat, t.mem.readByte a = s.mem.readByte a) ∧
    (t.self.fullGpr sel.out = s.self.fullGpr sel.out ∨ t.self.fullGpr sel.out = (rowValue i s.snapshot).setWidth 64)

/-- O13. Functions 0 and 1: vendor, family, model, stepping, features (R131, R132, R133, R134, R136, R137, R138, R139). In
every state that is ready (legal configuration R8, thread exists R20) and in which no override MSR of the thread was written
(R109), each register row listed here, run alone with EAX_in equal to its function (and ECX_in equal to its subleaf, where
its name has one), answers the next state in which its output register holds, zero-extended to 64 bits, the value of its
rule's formula, and nothing else of the machine has changed.  That a row alone is one write is the model's reading of the
rule's pseudocode (log 1). -/
def Obligations.VendorAndIdentityRows : Prop :=
  ∀ s : State, s.Ready → s.NoOverride →
    RowWrites s .fn00000000_EAX 0x0#32 none .eax 0x0000000D#32 ∧
    RowWrites s .fn00000000_EBX 0x0#32 none .ebx 0x68747541#32 ∧
    RowWrites s .fn00000000_ECX 0x0#32 none .ecx 0x444D4163#32 ∧
    RowWrites s .fn00000000_EDX 0x0#32 none .edx 0x69746E65#32 ∧
    RowWrites s .fn00000001_EAX 0x1#32 none .eax (0x00800F02#32 ||| (zext s.params.baseModel <<< 4)) ∧
    RowWrites s .fn00000001_EBX 0x1#32 none .ebx (0x00000800#32 ||| (zext (s.params.threadParams s.current).localApicId <<<
      24) ||| (zext (s.params.nc + 1#8) <<< 16)) ∧
    RowWrites s .fn00000001_ECX 0x1#32 none .ecx (0x74D83201#32 ||| (bit s.self.inputs.osxsave <<< 27) ||| (bit
      s.params.aes <<< 25) ||| (bit (!s.self.inputs.monMwaitDis) <<< 3) ||| (bit s.params.pclmulqdq <<< 1)) ∧
    RowWrites s .fn00000001_EDX 0x1#32 none .edx (0x078BF9FF#32 ||| (bit (s.params.nc != 0#8) <<< 28) ||| (bit
      s.self.inputs.apicEn <<< 9))

/-- O14. Functions 5 and 6: MONITOR/MWAIT, thermal and power (R141, R142, R143, R144, R146, R147, R148, R149). In every state
that is ready (legal configuration R8, thread exists R20) and in which no override MSR of the thread was written (R109), each
register row listed here, run alone with EAX_in equal to its function (and ECX_in equal to its subleaf, where its name has
one), answers the next state in which its output register holds, zero-extended to 64 bits, the value of its rule's formula,
and nothing else of the machine has changed.  That a row alone is one write is the model's reading of the rule's pseudocode
(log 1). -/
def Obligations.MonitorAndPowerRows : Prop :=
  ∀ s : State, s.Ready → s.NoOverride →
    RowWrites s .fn00000005_EAX 0x5#32 none .eax 0x00000040#32 ∧
    RowWrites s .fn00000005_EBX 0x5#32 none .ebx 0x00000040#32 ∧
    RowWrites s .fn00000005_ECX 0x5#32 none .ecx 0x00000003#32 ∧
    RowWrites s .fn00000005_EDX 0x5#32 none .edx 0x00000011#32 ∧
    RowWrites s .fn00000006_EAX 0x6#32 none .eax 0x00000004#32 ∧
    RowWrites s .fn00000006_EBX 0x6#32 none .ebx 0x00000000#32 ∧
    RowWrites s .fn00000006_ECX 0x6#32 none .ecx 0x00000001#32 ∧
    RowWrites s .fn00000006_EDX 0x6#32 none .edx 0x00000000#32

/-- O15. Functions 7 and Bh: structured features, extended topology (R151, R152, R153, R154, R156, R157, R158, R159). In
every state that is ready (legal configuration R8, thread exists R20), each register row listed here, run alone with EAX_in
equal to its function (and ECX_in equal to its subleaf, where its name has one), answers the next state in which its output
register holds, zero-extended to 64 bits, the value of its rule's formula, and nothing else of the machine has changed.  That
a row alone is one write is the model's reading of the rule's pseudocode (log 1). -/
def Obligations.StructuredAndTopologyRows : Prop :=
  ∀ s : State, s.Ready →
    RowWrites s .fn00000007_EAX_x00 0x7#32 (some 0x0#32) .eax 0x00000000#32 ∧
    RowWrites s .fn00000007_EBX_x00 0x7#32 (some 0x0#32) .ebx 0x209C01A9#32 ∧
    RowWrites s .fn00000007_ECX_x00 0x7#32 (some 0x0#32) .ecx 0x00000000#32 ∧
    RowWrites s .fn00000007_EDX_x00 0x7#32 (some 0x0#32) .edx 0x00000000#32 ∧
    RowWrites s .fn0000000B_EAX 0xB#32 none .eax 0x00000000#32 ∧
    RowWrites s .fn0000000B_EBX 0xB#32 none .ebx 0x00000000#32 ∧
    RowWrites s .fn0000000B_ECX 0xB#32 none .ecx 0x00000000#32 ∧
    RowWrites s .fn0000000B_EDX 0xB#32 none .edx 0x00000000#32

/-- O16. Function Dh, subleaves 0, 1, 2: extended state (R161, R162, R163, R164, R166, R167, R168, R169, R171, R172, R173,
R174). In every state that is ready (legal configuration R8, thread exists R20), each register row listed here, run alone
with EAX_in equal to its function (and ECX_in equal to its subleaf, where its name has one), answers the next state in which
its output register holds, zero-extended to 64 bits, the value of its rule's formula, and nothing else of the machine has
changed.  That a row alone is one write is the model's reading of the rule's pseudocode (log 1). -/
def Obligations.XstateRows : Prop :=
  ∀ s : State, s.Ready →
    RowWrites s .fn0000000D_EAX_x00 0xD#32 (some 0x0#32) .eax 0x00000007#32 ∧
    RowWrites s .fn0000000D_EBX_x00 0xD#32 (some 0x0#32) .ebx (if s.self.inputs.xcr0Avx then 0x00000340#32 else
      0x00000240#32) ∧
    RowWrites s .fn0000000D_ECX_x00 0xD#32 (some 0x0#32) .ecx s.params.xFeatureSupportedSizeMax ∧
    RowWrites s .fn0000000D_EDX_x00 0xD#32 (some 0x0#32) .edx 0x00000000#32 ∧
    RowWrites s .fn0000000D_EAX_x01 0xD#32 (some 0x1#32) .eax 0x0000000F#32 ∧
    RowWrites s .fn0000000D_EBX_x01 0xD#32 (some 0x1#32) .ebx (if s.self.inputs.xcr0Avx then 0x00000340#32 else
      0x00000240#32) ∧
    RowWrites s .fn0000000D_ECX_x01 0xD#32 (some 0x1#32) .ecx 0x00000000#32 ∧
    RowWrites s .fn0000000D_EDX_x01 0xD#32 (some 0x1#32) .edx 0x00000000#32 ∧
    RowWrites s .fn0000000D_EAX_x02 0xD#32 (some 0x2#32) .eax 0x00000100#32 ∧
    RowWrites s .fn0000000D_EBX_x02 0xD#32 (some 0x2#32) .ebx 0x00000240#32 ∧
    RowWrites s .fn0000000D_ECX_x02 0xD#32 (some 0x2#32) .ecx 0x00000000#32 ∧
    RowWrites s .fn0000000D_EDX_x02 0xD#32 (some 0x2#32) .edx 0x00000000#32

/-- O17. Functions 8000_0000h and 8000_0001h: vendor, identity, features (R201, R202, R203, R204, R206, R207, R208, R209). In
every state that is ready (legal configuration R8, thread exists R20) and in which no override MSR of the thread was written
(R109), each register row listed here, run alone with EAX_in equal to its function (and ECX_in equal to its subleaf, where
its name has one), answers the next state in which its output register holds, zero-extended to 64 bits, the value of its
rule's formula, and nothing else of the machine has changed.  That a row alone is one write is the model's reading of the
rule's pseudocode (log 1). -/
def Obligations.ExtendedIdentityRows : Prop :=
  ∀ s : State, s.Ready → s.NoOverride →
    RowWrites s .fn80000000_EAX 0x80000000#32 none .eax 0x8000001F#32 ∧
    RowWrites s .fn80000000_EBX 0x80000000#32 none .ebx 0x68747541#32 ∧
    RowWrites s .fn80000000_ECX 0x80000000#32 none .ecx 0x444D4163#32 ∧
    RowWrites s .fn80000000_EDX 0x80000000#32 none .edx 0x69746E65#32 ∧
    RowWrites s .fn80000001_EAX 0x80000001#32 none .eax (0x00800F02#32 ||| (zext s.params.baseModel <<< 4)) ∧
    RowWrites s .fn80000001_EBX 0x80000001#32 none .ebx (zext s.params.pkgType <<< 28) ∧
    RowWrites s .fn80000001_ECX 0x80000001#32 none .ecx (0x14C233FD#32 ||| (bit (!s.self.inputs.monMwaitDis) <<< 29) |||
      (bit (decide (0#8 < s.params.nc)) <<< 1)) ∧
    RowWrites s .fn80000001_EDX 0x80000001#32 none .edx (0x2FD3F9FF#32 ||| (bit s.self.inputs.apicEn <<< 9))

/-- O18. Functions 8000_0002h to 8000_0004h: the processor name string (R211, R212, R213, R214, R216, R217, R218, R219, R221,
R222, R223, R224). In every state that is ready (legal configuration R8, thread exists R20), each register row listed here,
run alone with EAX_in equal to its function (and ECX_in equal to its subleaf, where its name has one), answers the next state
in which its output register holds, zero-extended to 64 bits, the value of its rule's formula, and nothing else of the
machine has changed.  That a row alone is one write is the model's reading of the rule's pseudocode (log 1). -/
def Obligations.NameStringRows : Prop :=
  ∀ s : State, s.Ready →
    RowWrites s .fn80000002_EAX 0x80000002#32 none .eax ((zext (s.snapshot.name 0 3) <<< 24) ||| (zext (s.snapshot.name 0
      2) <<< 16) ||| (zext (s.snapshot.name 0 1) <<< 8) ||| (zext (s.snapshot.name 0 0))) ∧
    RowWrites s .fn80000002_EBX 0x80000002#32 none .ebx ((zext (s.snapshot.name 0 7) <<< 24) ||| (zext (s.snapshot.name 0
      6) <<< 16) ||| (zext (s.snapshot.name 0 5) <<< 8) ||| (zext (s.snapshot.name 0 4))) ∧
    RowWrites s .fn80000002_ECX 0x80000002#32 none .ecx ((zext (s.snapshot.name 1 3) <<< 24) ||| (zext (s.snapshot.name 1
      2) <<< 16) ||| (zext (s.snapshot.name 1 1) <<< 8) ||| (zext (s.snapshot.name 1 0))) ∧
    RowWrites s .fn80000002_EDX 0x80000002#32 none .edx ((zext (s.snapshot.name 1 7) <<< 24) ||| (zext (s.snapshot.name 1
      6) <<< 16) ||| (zext (s.snapshot.name 1 5) <<< 8) ||| (zext (s.snapshot.name 1 4))) ∧
    RowWrites s .fn80000003_EAX 0x80000003#32 none .eax ((zext (s.snapshot.name 2 3) <<< 24) ||| (zext (s.snapshot.name 2
      2) <<< 16) ||| (zext (s.snapshot.name 2 1) <<< 8) ||| (zext (s.snapshot.name 2 0))) ∧
    RowWrites s .fn80000003_EBX 0x80000003#32 none .ebx ((zext (s.snapshot.name 2 7) <<< 24) ||| (zext (s.snapshot.name 2
      6) <<< 16) ||| (zext (s.snapshot.name 2 5) <<< 8) ||| (zext (s.snapshot.name 2 4))) ∧
    RowWrites s .fn80000003_ECX 0x80000003#32 none .ecx ((zext (s.snapshot.name 3 3) <<< 24) ||| (zext (s.snapshot.name 3
      2) <<< 16) ||| (zext (s.snapshot.name 3 1) <<< 8) ||| (zext (s.snapshot.name 3 0))) ∧
    RowWrites s .fn80000003_EDX 0x80000003#32 none .edx ((zext (s.snapshot.name 3 7) <<< 24) ||| (zext (s.snapshot.name 3
      6) <<< 16) ||| (zext (s.snapshot.name 3 5) <<< 8) ||| (zext (s.snapshot.name 3 4))) ∧
    RowWrites s .fn80000004_EAX 0x80000004#32 none .eax ((zext (s.snapshot.name 4 3) <<< 24) ||| (zext (s.snapshot.name 4
      2) <<< 16) ||| (zext (s.snapshot.name 4 1) <<< 8) ||| (zext (s.snapshot.name 4 0))) ∧
    RowWrites s .fn80000004_EBX 0x80000004#32 none .ebx ((zext (s.snapshot.name 4 7) <<< 24) ||| (zext (s.snapshot.name 4
      6) <<< 16) ||| (zext (s.snapshot.name 4 5) <<< 8) ||| (zext (s.snapshot.name 4 4))) ∧
    RowWrites s .fn80000004_ECX 0x80000004#32 none .ecx ((zext (s.snapshot.name 5 3) <<< 24) ||| (zext (s.snapshot.name 5
      2) <<< 16) ||| (zext (s.snapshot.name 5 1) <<< 8) ||| (zext (s.snapshot.name 5 0))) ∧
    RowWrites s .fn80000004_EDX 0x80000004#32 none .edx ((zext (s.snapshot.name 5 7) <<< 24) ||| (zext (s.snapshot.name 5
      6) <<< 16) ||| (zext (s.snapshot.name 5 5) <<< 8) ||| (zext (s.snapshot.name 5 4)))

/-- O19. Functions 8000_0005h and 8000_0006h: L1, L2 and L3 caches and TLBs (R241, R242, R243, R244, R246, R247, R248, R249).
In every state that is ready (legal configuration R8, thread exists R20), each register row listed here, run alone with
EAX_in equal to its function (and ECX_in equal to its subleaf, where its name has one), answers the next state in which its
output register holds, zero-extended to 64 bits, the value of its rule's formula, and nothing else of the machine has
changed.  That a row alone is one write is the model's reading of the rule's pseudocode (log 1). -/
def Obligations.CacheAndTlbRows : Prop :=
  ∀ s : State, s.Ready →
    RowWrites s .fn80000005_EAX 0x80000005#32 none .eax 0xFF40FF40#32 ∧
    RowWrites s .fn80000005_EBX 0x80000005#32 none .ebx 0xFF40FF40#32 ∧
    RowWrites s .fn80000005_ECX 0x80000005#32 none .ecx 0x20080140#32 ∧
    RowWrites s .fn80000005_EDX 0x80000005#32 none .edx 0x40040140#32 ∧
    RowWrites s .fn80000006_EAX 0x80000006#32 none .eax (0x06006400#32 ||| (zext s.params.l2DTlb2and4MAssoc <<< 28)) ∧
    RowWrites s .fn80000006_EBX 0x80000006#32 none .ebx (0x06006400#32 ||| (zext s.params.l2DTlb4KAssoc <<< 28)) ∧
    RowWrites s .fn80000006_ECX 0x80000006#32 none .ecx 0x02006140#32 ∧
    RowWrites s .fn80000006_EDX 0x80000006#32 none .edx (0x00000140#32 ||| (zext s.params.l3Size <<< 18) ||| (zext
      s.params.l3Assoc <<< 12))

/-- O20. Functions 8000_0007h, 8000_0008h, 8000_000Ah: power, sizes, SVM (R251, R252, R253, R254, R256, R257, R258, R260,
R261, R262). In every state that is ready (legal configuration R8, thread exists R20) and in which no override MSR of the
thread was written (R109), each register row listed here, run alone with EAX_in equal to its function (and ECX_in equal to
its subleaf, where its name has one), answers the next state in which its output register holds, zero-extended to 64 bits,
the value of its rule's formula, and nothing else of the machine has changed.  That a row alone is one write is the model's
reading of the rule's pseudocode (log 1). -/
def Obligations.PowerSizeSvmRows : Prop :=
  ∀ s : State, s.Ready → s.NoOverride →
    RowWrites s .fn80000007_EAX 0x80000007#32 none .eax 0x00000000#32 ∧
    RowWrites s .fn80000007_EBX 0x80000007#32 none .ebx (0x00000009#32 ||| (bit s.params.succor <<< 1)) ∧
    RowWrites s .fn80000007_ECX 0x80000007#32 none .ecx 0x00000000#32 ∧
    RowWrites s .fn80000007_EDX 0x80000007#32 none .edx 0x00006789#32 ∧
    RowWrites s .fn80000008_EAX 0x80000008#32 none .eax 0x00003030#32 ∧
    RowWrites s .fn80000008_EBX 0x80000008#32 none .ebx 0x00000007#32 ∧
    RowWrites s .fn80000008_ECX 0x80000008#32 none .ecx ((zext s.params.apicIdSize <<< 12) ||| (zext s.params.nc)) ∧
    RowWrites s .fn8000000A_EAX 0x8000000A#32 none .eax 0x00000001#32 ∧
    RowWrites s .fn8000000A_EBX 0x8000000A#32 none .ebx s.self.inputs.nasid ∧
    RowWrites s .fn8000000A_EDX 0x8000000A#32 none .edx 0x0001B4FF#32

/-- O21. Functions 8000_0019h to 8000_001Bh and 8000_001Fh: 1 GB TLB, IBS, encrypted memory (R281, R282, R284, R286, R317,
R318, R319, R320). In every state that is ready (legal configuration R8, thread exists R20), each register row listed here,
run alone with EAX_in equal to its function (and ECX_in equal to its subleaf, where its name has one), answers the next state
in which its output register holds, zero-extended to 64 bits, the value of its rule's formula, and nothing else of the
machine has changed.  That a row alone is one write is the model's reading of the rule's pseudocode (log 1). -/
def Obligations.TlbIbsSevRows : Prop :=
  ∀ s : State, s.Ready →
    RowWrites s .fn80000019_EAX 0x80000019#32 none .eax 0xF040F040#32 ∧
    RowWrites s .fn80000019_EBX 0x80000019#32 none .ebx 0x00000000#32 ∧
    RowWrites s .fn8000001A_EAX 0x8000001A#32 none .eax 0x00000003#32 ∧
    RowWrites s .fn8000001B_EAX 0x8000001B#32 none .eax 0x000003FF#32 ∧
    RowWrites s .fn8000001F_EAX 0x8000001F#32 none .eax 0x0000000F#32 ∧
    RowWrites s .fn8000001F_EBX 0x8000001F#32 none .ebx 0x0000016F#32 ∧
    RowWrites s .fn8000001F_ECX 0x8000001F#32 none .ecx 0x0000000F#32 ∧
    RowWrites s .fn8000001F_EDX 0x8000001F#32 none .edx s.params.minimumSevAsid

/-- O22. Function 8000_001Dh, EAX and EBX of subleaves 0 to 4: cache type, sharing and ways (R292, R293, R294, R295, R296,
R297, R298, R299, R300, R301). In every state that is ready (legal configuration R8, thread exists R20) and in which no
override MSR of the thread was written (R109), each register row listed here, run alone with EAX_in equal to its function
(and ECX_in equal to its subleaf, where its name has one), answers the next state in which its output register holds, zero-
extended to 64 bits, the value of its rule's formula, and nothing else of the machine has changed.  That a row alone is one
write is the model's reading of the rule's pseudocode (log 1). -/
def Obligations.CacheTypeAndWaysRows : Prop :=
  ∀ s : State, s.Ready → s.NoOverride →
    RowWrites s .fn8000001D_EAX_x00 0x8000001D#32 (some 0x0#32) .eax (0x00000121#32 ||| (zext (s.params.dcSharing
      s.current) <<< 14)) ∧
    RowWrites s .fn8000001D_EAX_x01 0x8000001D#32 (some 0x1#32) .eax (0x00000122#32 ||| (zext (s.params.threadParams
      s.current).numSharingCacheIC <<< 14)) ∧
    RowWrites s .fn8000001D_EAX_x02 0x8000001D#32 (some 0x2#32) .eax (0x00000143#32 ||| (zext (s.params.threadParams
      s.current).numSharingCacheL2 <<< 14)) ∧
    RowWrites s .fn8000001D_EAX_x03 0x8000001D#32 (some 0x3#32) .eax (0x00000163#32 ||| (zext (s.params.threadParams
      s.current).numSharingCacheL3 <<< 14)) ∧
    RowWrites s .fn8000001D_EAX_x04 0x8000001D#32 (some 0x4#32) .eax 0x00000000#32 ∧
    RowWrites s .fn8000001D_EBX_x00 0x8000001D#32 (some 0x0#32) .ebx 0x01C0003F#32 ∧
    RowWrites s .fn8000001D_EBX_x01 0x8000001D#32 (some 0x1#32) .ebx 0x00C0003F#32 ∧
    RowWrites s .fn8000001D_EBX_x02 0x8000001D#32 (some 0x2#32) .ebx 0x01C0003F#32 ∧
    RowWrites s .fn8000001D_EBX_x03 0x8000001D#32 (some 0x3#32) .ebx 0x03C0003F#32 ∧
    RowWrites s .fn8000001D_EBX_x04 0x8000001D#32 (some 0x4#32) .ebx 0x00000000#32

/-- O23. Function 8000_001Dh, ECX and EDX of subleaves 0 to 4: cache sets and inclusion (R302, R303, R304, R305, R306, R307,
R308, R309, R310, R311). In every state that is ready (legal configuration R8, thread exists R20) and in which no override
MSR of the thread was written (R109), each register row listed here, run alone with EAX_in equal to its function (and ECX_in
equal to its subleaf, where its name has one), answers the next state in which its output register holds, zero-extended to 64
bits, the value of its rule's formula, and nothing else of the machine has changed.  That a row alone is one write is the
model's reading of the rule's pseudocode (log 1). -/
def Obligations.CacheSetsAndInclusionRows : Prop :=
  ∀ s : State, s.Ready → s.NoOverride →
    RowWrites s .fn8000001D_ECX_x00 0x8000001D#32 (some 0x0#32) .ecx 0x0000003F#32 ∧
    RowWrites s .fn8000001D_ECX_x01 0x8000001D#32 (some 0x1#32) .ecx 0x000000FF#32 ∧
    RowWrites s .fn8000001D_ECX_x02 0x8000001D#32 (some 0x2#32) .ecx 0x000003FF#32 ∧
    RowWrites s .fn8000001D_ECX_x03 0x8000001D#32 (some 0x3#32) .ecx s.params.l3NumSets ∧
    RowWrites s .fn8000001D_ECX_x04 0x8000001D#32 (some 0x4#32) .ecx 0x00000000#32 ∧
    RowWrites s .fn8000001D_EDX_x00 0x8000001D#32 (some 0x0#32) .edx 0x00000000#32 ∧
    RowWrites s .fn8000001D_EDX_x01 0x8000001D#32 (some 0x1#32) .edx 0x00000000#32 ∧
    RowWrites s .fn8000001D_EDX_x02 0x8000001D#32 (some 0x2#32) .edx 0x00000002#32 ∧
    RowWrites s .fn8000001D_EDX_x03 0x8000001D#32 (some 0x3#32) .edx 0x00000001#32 ∧
    RowWrites s .fn8000001D_EDX_x04 0x8000001D#32 (some 0x4#32) .edx 0x00000000#32

/-- O24. Function 8000_001Eh: APIC, core and node identifiers (R313, R314, R315). In every state that is ready (legal
configuration R8, thread exists R20) and in which no override MSR of the thread was written (R109), each register row listed
here, run alone with EAX_in equal to its function (and ECX_in equal to its subleaf, where its name has one), answers the next
state in which its output register holds, zero-extended to 64 bits, the value of its rule's formula, and nothing else of the
machine has changed.  That a row alone is one write is the model's reading of the rule's pseudocode (log 1). -/
def Obligations.IdentifierRows : Prop :=
  ∀ s : State, s.Ready → s.NoOverride →
    RowWrites s .fn8000001E_EAX 0x8000001E#32 none .eax (if s.self.inputs.apicEn then zext s.self.inputs.apicId else 0#32) ∧
    RowWrites s .fn8000001E_EBX 0x8000001E#32 none .ebx ((zext s.params.threadsPerCore <<< 8) ||| (zext
      (s.params.threadParams s.current).coreId)) ∧
    RowWrites s .fn8000001E_ECX 0x8000001E#32 none .ecx ((zext s.params.nodesPerProcessor <<< 8) ||| (zext
      (s.params.threadParams s.current).nodeId))

/-- O25. A written override replaces its register whole (a row run alone is log 1, the replacement log 14) (R27, R109). In
every ready state in which the override of one of the five registers that carry the note "can be over-written" holds a value,
that row run alone completes and writes that value. That a row can be run alone is the model's choice (log 1, DESIGN CHOICE),
and so is a whole-register replacement (log 14); the spec leaves the granularity open and its own runs write no override. -/
def Obligations.OverrideReplacesRegister : Prop :=
  ∀ (s : State) (w : Word), s.Ready →
    (s.self.overrides.featureIdEcx = some w → RowWrites s .fn00000001_ECX 0x1#32 none .ecx w) ∧
    (s.self.overrides.featureIdEdx = some w → RowWrites s .fn00000001_EDX 0x1#32 none .edx w) ∧
    (s.self.overrides.featureExtIdEcx = some w → RowWrites s .fn80000001_ECX 0x80000001#32 none .ecx w) ∧
    (s.self.overrides.featureExtIdEdx = some w → RowWrites s .fn80000001_EDX 0x80000001#32 none .edx w) ∧
    (s.self.overrides.thermalPwrMgmtEcx = some w → RowWrites s .fn00000006_ECX 0x6#32 none .ecx w)

/-- O26. With SVM or TopologyExtensions overridden to 0, the registers they report are unlisted (a row run alone is log 1,
the override log 14) (R104, R109, R110). In every ready state whose override of CPUID_Fn80000001_ECX holds a value with bit 2
(SVM) clear, the rows of function 8000_000Ah complete and write Unlisted; with bit 22 (TopologyExtensions) clear, so do the
rows of functions 8000_001Dh and 8000_001Eh. That a row can be run alone is the model's choice (log 1, DESIGN CHOICE), and
the form of the overrides too (log 14); the rule is the last sentence of R110. -/
def Obligations.ClearedFeatureMakesRowsUnlisted : Prop :=
  ∀ (s : State) (w : Word), s.Ready → s.self.overrides.featureExtIdEcx = some w →
    (w.getLsbD 2 = false →
      RowWrites s .fn8000000A_EAX 0x8000000A#32 none .eax (s.snapshot.unlisted .eax) ∧
      RowWrites s .fn8000000A_EBX 0x8000000A#32 none .ebx (s.snapshot.unlisted .ebx) ∧
      RowWrites s .fn8000000A_EDX 0x8000000A#32 none .edx (s.snapshot.unlisted .edx)) ∧
    (w.getLsbD 22 = false →
      RowWrites s .fn8000001D_EAX_x00 0x8000001D#32 (some 0x0#32) .eax (s.snapshot.unlisted .eax) ∧
      RowWrites s .fn8000001D_EAX_x01 0x8000001D#32 (some 0x1#32) .eax (s.snapshot.unlisted .eax) ∧
      RowWrites s .fn8000001D_EAX_x02 0x8000001D#32 (some 0x2#32) .eax (s.snapshot.unlisted .eax) ∧
      RowWrites s .fn8000001D_EAX_x03 0x8000001D#32 (some 0x3#32) .eax (s.snapshot.unlisted .eax) ∧
      RowWrites s .fn8000001D_EAX_x04 0x8000001D#32 (some 0x4#32) .eax (s.snapshot.unlisted .eax) ∧
      RowWrites s .fn8000001D_EBX_x00 0x8000001D#32 (some 0x0#32) .ebx (s.snapshot.unlisted .ebx) ∧
      RowWrites s .fn8000001D_EBX_x01 0x8000001D#32 (some 0x1#32) .ebx (s.snapshot.unlisted .ebx) ∧
      RowWrites s .fn8000001D_EBX_x02 0x8000001D#32 (some 0x2#32) .ebx (s.snapshot.unlisted .ebx) ∧
      RowWrites s .fn8000001D_EBX_x03 0x8000001D#32 (some 0x3#32) .ebx (s.snapshot.unlisted .ebx) ∧
      RowWrites s .fn8000001D_EBX_x04 0x8000001D#32 (some 0x4#32) .ebx (s.snapshot.unlisted .ebx) ∧
      RowWrites s .fn8000001D_ECX_x00 0x8000001D#32 (some 0x0#32) .ecx (s.snapshot.unlisted .ecx) ∧
      RowWrites s .fn8000001D_ECX_x01 0x8000001D#32 (some 0x1#32) .ecx (s.snapshot.unlisted .ecx) ∧
      RowWrites s .fn8000001D_ECX_x02 0x8000001D#32 (some 0x2#32) .ecx (s.snapshot.unlisted .ecx) ∧
      RowWrites s .fn8000001D_ECX_x03 0x8000001D#32 (some 0x3#32) .ecx (s.snapshot.unlisted .ecx) ∧
      RowWrites s .fn8000001D_ECX_x04 0x8000001D#32 (some 0x4#32) .ecx (s.snapshot.unlisted .ecx) ∧
      RowWrites s .fn8000001D_EDX_x00 0x8000001D#32 (some 0x0#32) .edx (s.snapshot.unlisted .edx) ∧
      RowWrites s .fn8000001D_EDX_x01 0x8000001D#32 (some 0x1#32) .edx (s.snapshot.unlisted .edx) ∧
      RowWrites s .fn8000001D_EDX_x02 0x8000001D#32 (some 0x2#32) .edx (s.snapshot.unlisted .edx) ∧
      RowWrites s .fn8000001D_EDX_x03 0x8000001D#32 (some 0x3#32) .edx (s.snapshot.unlisted .edx) ∧
      RowWrites s .fn8000001D_EDX_x04 0x8000001D#32 (some 0x4#32) .edx (s.snapshot.unlisted .edx) ∧
      RowWrites s .fn8000001E_EAX 0x8000001E#32 none .eax (s.snapshot.unlisted .eax) ∧
      RowWrites s .fn8000001E_EBX 0x8000001E#32 none .ebx (s.snapshot.unlisted .ebx) ∧
      RowWrites s .fn8000001E_ECX 0x8000001E#32 none .ecx (s.snapshot.unlisted .ecx))

/-- O27. The fields of a register cover bits 31:0 without overlap, and each reads back (R10, R105, 92_eei_decisions.md D6).
For every register row and every snapshot: the fields, in the source's order, cover bits 31:0 with no gap and no overlap; a
field "Reserved." with no printed value holds 0; each field of the value put together from them reads back, at its bits, as
that field's own value; and with no override written and no feature cleared the value of the register is that OR of its
fields. -/
def Obligations.FieldsCoverAndReadBack : Prop :=
  ∀ (i : Instr) (v : Snapshot), i ≠ .cpuid →
    coversFrom 31 (rowFields i v) = true ∧
    (∀ f ∈ rowFields i v, f.source = .reserved → f.value = 0#32) ∧
    (∀ f ∈ rowFields i v, slice (compose (rowFields i v)) f.hi f.lo = f.value) ∧
    (v.ov = Overrides.none → rowValue i v = compose (rowFields i v))

/-- O28. Every printed whole-register reset agrees with the value, in every digit it prints (R105, R370). For every register
row that prints a whole-register reset, in every legal configuration with no override written and NASID at its reset value:
the value agrees with the printed one in every digit that is not X. -/
def Obligations.PrintedResetsAgree : Prop :=
  ∀ (i : Instr) (v : Snapshot) (mask w : Word), v.p.wellFormed = true → v.ov = Overrides.none →
    v.inp.nasid = 0x00008000#32 → printedReset i = some (mask, w) → rowValue i v &&& mask = w

/-- O29. Registers the source calls equal, and the aliases of the name-string MSRs (R111). In every snapshot: the vendor
registers of functions 0 and 8000_0000h return the same values (EBX, ECX, EDX); the identity registers of functions 1 and
8000_0001h return the same value (EAX); each of the twelve name-string registers returns the four bytes of its MSR as they
are in that snapshot. -/
def Obligations.AliasedRegistersReturnTheSame : Prop :=
  ∀ v : Snapshot,
    rowValue .fn80000000_EBX v = rowValue .fn00000000_EBX v ∧ rowValue .fn80000000_ECX v = rowValue .fn00000000_ECX v ∧
    rowValue .fn80000000_EDX v = rowValue .fn00000000_EDX v ∧ rowValue .fn80000001_EAX v = rowValue .fn00000001_EAX v ∧
    rowValue .fn80000002_EAX v = v.name 0 3 ++ v.name 0 2 ++ v.name 0 1 ++ v.name 0 0 ∧
    rowValue .fn80000002_EBX v = v.name 0 7 ++ v.name 0 6 ++ v.name 0 5 ++ v.name 0 4 ∧
    rowValue .fn80000002_ECX v = v.name 1 3 ++ v.name 1 2 ++ v.name 1 1 ++ v.name 1 0 ∧
    rowValue .fn80000002_EDX v = v.name 1 7 ++ v.name 1 6 ++ v.name 1 5 ++ v.name 1 4 ∧
    rowValue .fn80000003_EAX v = v.name 2 3 ++ v.name 2 2 ++ v.name 2 1 ++ v.name 2 0 ∧
    rowValue .fn80000003_EBX v = v.name 2 7 ++ v.name 2 6 ++ v.name 2 5 ++ v.name 2 4 ∧
    rowValue .fn80000003_ECX v = v.name 3 3 ++ v.name 3 2 ++ v.name 3 1 ++ v.name 3 0 ∧
    rowValue .fn80000003_EDX v = v.name 3 7 ++ v.name 3 6 ++ v.name 3 5 ++ v.name 3 4 ∧
    rowValue .fn80000004_EAX v = v.name 4 3 ++ v.name 4 2 ++ v.name 4 1 ++ v.name 4 0 ∧
    rowValue .fn80000004_EBX v = v.name 4 7 ++ v.name 4 6 ++ v.name 4 5 ++ v.name 4 4 ∧
    rowValue .fn80000004_ECX v = v.name 5 3 ++ v.name 5 2 ++ v.name 5 1 ++ v.name 5 0 ∧
    rowValue .fn80000004_EDX v = v.name 5 7 ++ v.name 5 6 ++ v.name 5 5 ++ v.name 5 4

/-- O30. The vendor string and the name string, read in register order, lowest-numbered byte in bits 7:0 (R61). In every
snapshot: EBX, EDX, ECX of function 0000_0000h, and of 8000_0000h, read byte by byte from bits 7:0 up, are the 12 ASCII bytes
of "AuthenticAMD" (41h 75h 74h 68h 65h 6Eh 74h 69h 63h 41h 4Dh 44h); EAX, EBX, ECX, EDX of functions 8000_0002h, 8000_0003h,
8000_0004h are the 48 bytes of In.ProcNameString, byte 8n + k being byte k of MSR n. -/
def Obligations.StringsReadInOrder : Prop :=
  ∀ v : Snapshot,
    vendorString (rowValue .fn00000000_EBX v) (rowValue .fn00000000_ECX v) (rowValue .fn00000000_EDX v) =
      [0x41#8, 0x75#8, 0x74#8, 0x68#8, 0x65#8, 0x6E#8, 0x74#8, 0x69#8, 0x63#8, 0x41#8, 0x4D#8, 0x44#8] ∧
    vendorString (rowValue .fn80000000_EBX v) (rowValue .fn80000000_ECX v) (rowValue .fn80000000_EDX v) =
      [0x41#8, 0x75#8, 0x74#8, 0x68#8, 0x65#8, 0x6E#8, 0x74#8, 0x69#8, 0x63#8, 0x41#8, 0x4D#8, 0x44#8] ∧
    namePart (rowValue .fn80000002_EAX v) (rowValue .fn80000002_EBX v) (rowValue .fn80000002_ECX v) (rowValue
      .fn80000002_EDX v) ++
      namePart (rowValue .fn80000003_EAX v) (rowValue .fn80000003_EBX v) (rowValue .fn80000003_ECX v) (rowValue
        .fn80000003_EDX v) ++
      namePart (rowValue .fn80000004_EAX v) (rowValue .fn80000004_EBX v) (rowValue .fn80000004_ECX v) (rowValue
        .fn80000004_EDX v) =
      (List.finRange 48).map (fun b => v.name ⟨b.val / 8, by omega⟩ ⟨b.val % 8, by omega⟩)

/-- O31. NC, LogicalProcessorCount, HTT and CmpLegacy say the same (R112, R137, R139, R208, R258). In every legal
configuration with no override written: LogicalProcessorCount (function 1, EBX 23:16) is P.NC + 1 without wrap and equals NC
+ 1 as read from function 8000_0008h; HTT (function 1, EDX bit 28) and CmpLegacy (function 8000_0001h, ECX bit 1) are equal,
and 1 exactly if P.NC is not 0. -/
def Obligations.ThreadCountFieldsAgree : Prop :=
  ∀ v : Snapshot, v.p.wellFormed = true → v.ov = Overrides.none →
    (slice (rowValue .fn00000001_EBX v) 23 16).toNat = v.p.nc.toNat + 1 ∧
    threadsInPackage (rowValue .fn80000008_ECX v) = v.p.nc.toNat + 1 ∧
    (rowValue .fn00000001_EDX v).getLsbD 28 = (rowValue .fn80000001_ECX v).getLsbD 1 ∧
    ((rowValue .fn00000001_EDX v).getLsbD 28 = true ↔ v.p.nc ≠ 0#8)

/-- O32. Family 17h, Model P.BaseModel, Stepping 2, from the EAX of functions 1 and 8000_0001h (R112, R136, R206). In every
snapshot, the arithmetic the source gives software: Family[7:0] of the EAX of function 1 and of 8000_0001h is 17h, Model[7:0]
is P.BaseModel zero-extended, Stepping is 2. -/
def Obligations.FamilyModelSteppingDecode : Prop :=
  ∀ v : Snapshot, ∀ i ∈ [Instr.fn00000001_EAX, Instr.fn80000001_EAX],
    familyOf (rowValue i v) = 0x17#8 ∧ modelOf (rowValue i v) = v.p.baseModel.setWidth 8 ∧ steppingOf (rowValue i v) = 2#4

/-- O33. The geometry function 8000_001Dh gives agrees with the sizes and lines functions 8000_0005h and 8000_0006h give
(R112, R243, R244, R248, R292, R293, R294, R295, R297, R298, R299, 45_extended_tlb_ibs_cache_properties.md R302, R303, R304).
In every snapshot with no override written: ways times sets times line size of subleaves 0, 1 and 2 of function 8000_001Dh
are 32 KB, 64 KB and 512 KB, the sizes in the ECX and EDX of 8000_0005h and the ECX of 8000_0006h; the line size of each of
the three is 64 bytes, the line size in bits 7:0 of the same three registers; and the sharers of the caches of subleaves 0,
1, 2 and 3 are P.NumSharingCache_DC of the core, P.NumSharingCache_IC, P.NumSharingCache_L2 and P.NumSharingCache_L3 of the
thread, each plus 1. -/
def Obligations.CacheGeometryAgrees : Prop :=
  ∀ v : Snapshot, v.ov = Overrides.none →
    (cacheBytes (rowValue .fn8000001D_EBX_x00 v) (rowValue .fn8000001D_ECX_x00 v) = 32 * 1024 ∧
      (slice (rowValue .fn80000005_ECX v) 31 24).toNat * 1024 = 32 * 1024) ∧
    (cacheBytes (rowValue .fn8000001D_EBX_x01 v) (rowValue .fn8000001D_ECX_x01 v) = 64 * 1024 ∧
      (slice (rowValue .fn80000005_EDX v) 31 24).toNat * 1024 = 64 * 1024) ∧
    (cacheBytes (rowValue .fn8000001D_EBX_x02 v) (rowValue .fn8000001D_ECX_x02 v) = 512 * 1024 ∧
      (slice (rowValue .fn80000006_ECX v) 31 16).toNat * 1024 = 512 * 1024) ∧
    (cacheLineSize (rowValue .fn8000001D_EBX_x00 v) = 64 ∧ (slice (rowValue .fn80000005_ECX v) 7 0).toNat = 64) ∧
    (cacheLineSize (rowValue .fn8000001D_EBX_x01 v) = 64 ∧ (slice (rowValue .fn80000005_EDX v) 7 0).toNat = 64) ∧
    (cacheLineSize (rowValue .fn8000001D_EBX_x02 v) = 64 ∧ (slice (rowValue .fn80000006_ECX v) 7 0).toNat = 64) ∧
    cacheSharers (rowValue .fn8000001D_EAX_x00 v) = (v.p.dcSharing v.t).toNat + 1 ∧
    cacheSharers (rowValue .fn8000001D_EAX_x01 v) = v.tp.numSharingCacheIC.toNat + 1 ∧
    cacheSharers (rowValue .fn8000001D_EAX_x02 v) = v.tp.numSharingCacheL2.toNat + 1 ∧
    cacheSharers (rowValue .fn8000001D_EAX_x03 v) = v.tp.numSharingCacheL3.toNat + 1

/-- O34. The per-core register reads the same on both threads of a core (R20, R107, R292). In every snapshot with no override
written, CPUID_Fn8000001D_EAX_x00 has the same value for the two threads of one core. -/
def Obligations.ThreadsOfOneCoreShareCacheProperties : Prop :=
  ∀ (v : Snapshot) (l : Fin 2) (c : Fin 4) (h h' : Fin 2), v.ov = Overrides.none →
    rowValue .fn8000001D_EAX_x00 { v with t := ⟨l, c, h⟩ } = rowValue .fn8000001D_EAX_x00 { v with t := ⟨l, c, h'⟩ }

/-- O35. A register with no input-fed field returns the same value whatever the inputs are; the volatile ones follow theirs
(R26, R31, R108). With no override written: a register none of whose fields follows an input has the same value after any
change of the inputs and under any key of the free value; the access type "Read-only,Volatile" stands on exactly three
registers; two of them differ between XCR0[AVX] = 0 and 1 and the third is NASID; and whichever registers are volatile, the
operands and that key (the model's field, log 3) never enter a listed value. -/
def Obligations.OnlyInputFedRegistersVary : Prop :=
  (∀ (i : Instr) (v : Snapshot) (inp : Inputs) (n : Nat) (fn sub : Word), i ≠ .cpuid → v.ov = Overrides.none →
      ((rowFields i v).all (fun f => f.source != .input) = true ∨ inp = v.inp) →
      rowValue i { v with inp := inp, key := n, fn := fn, sub := sub } = rowValue i v) ∧
    (∀ i : Instr, printedAccess i = .readOnlyVolatile ↔
      i = .fn0000000D_EBX_x00 ∨ i = .fn0000000D_EBX_x01 ∨ i = .fn8000000A_EBX) ∧
    (∀ v : Snapshot, v.ov = Overrides.none →
      rowValue .fn0000000D_EBX_x00 { v with inp := { v.inp with xcr0Avx := true } } = 0x340#32 ∧
      rowValue .fn0000000D_EBX_x00 { v with inp := { v.inp with xcr0Avx := false } } = 0x240#32 ∧
      rowValue .fn0000000D_EBX_x01 { v with inp := { v.inp with xcr0Avx := true } } = 0x340#32 ∧
      rowValue .fn0000000D_EBX_x01 { v with inp := { v.inp with xcr0Avx := false } } = 0x240#32 ∧
      rowValue .fn8000000A_EBX v = v.inp.nasid)

/-- O36. CPUID repeated with the same operands returns the same listed values (R31, R64, R100, R375). In every ready state
with no override written: run CPUID, put the same function and subleaf back into EAX and ECX, run CPUID again (the inputs
unchanged): both complete, and every output that has a register holds the same value after both. -/
def Obligations.RepeatedCpuidReturnsTheSame : Prop :=
  ∀ s : State, s.Ready → s.NoOverride → ∃ t u : State, exec .cpuid s = .next t ∧
    exec .cpuid (t.setSelf ((t.self.writeGpr .eax s.self.functionIn).writeGpr .ecx s.self.subleafIn)) = .next u ∧
    ∀ out : Gpr, (decodePoint ⟨s.self.functionIn, s.self.subleafIn, out⟩).isSome = true → u.self.gpr out = t.self.gpr out

/-- O37. A step runs the instruction the bytes at pc decode to (the schedule is the model's field, log 4) (R60, R80, R350,
92_eei_decisions.md D26). In every state with a legal configuration: with nothing scheduled, if the bytes at the current
thread's pc decode to an instruction, step is exec of it in that state; if the next scheduled move is that a thread runs,
step is exec, in the state with that thread current and the move taken off the schedule, of the instruction decoded there.
The schedule, its run moves and the thread current when it is empty are the model's (field agenda, log 4, DESIGN CHOICE). -/
def Obligations.StepRunsDecodedInstruction : Prop :=
  ∀ (s : State) (i : Instr) (rest : List Byte), s.params.wellFormed = true →
    (s.agenda = [] → decode s.fetchBytes = .ok (i, rest) → step s = exec i s) ∧
    (∀ (t : ThreadId) (ms : List Move), s.agenda = .run t :: ms →
      decode (State.fetchBytes { s with current := t, agenda := ms }) = .ok (i, rest) →
      step s = exec i { s with current := t, agenda := ms })

/-- O38. Any bytes at pc but 0Fh A2h are refused (the names of the refusals are the model's, log 16) (R86, R87,
92_eei_decisions.md D22). In every state with a legal configuration and nothing scheduled: if the bytes the fetch finds at pc
and pc + 1 are not 0Fh A2h, the step is a refusal, neither a fault nor a next state: by the name of the end of the program
where there is no byte, of a truncated instruction for 0Fh alone, of a prefixed form for a prefix byte, of no instruction
otherwise (the four names are the model's choice, and prefix bytes beyond those R87 gives by number are PRESUMED, log 16). -/
def Obligations.OtherBytesAreRefused : Prop :=
  ∀ s : State, s.params.wellFormed = true → s.agenda = [] → s.fetchBytes ≠ [0x0F#8, 0xA2#8] →
    step s = .refused
      (match s.fetchBytes with
      | [] => .endOfProgram
      | b0 :: bs =>
        if b0 = 0x0F#8 ∧ bs = [] then .truncatedInstruction
        else if isPrefixByte b0 = true then .prefixedInstruction else .notAnInstruction)

/-- O39. Reserved configurations, and no others, are refused by every step and instruction; so is the turn of an absent
thread (log 13) (R8, R20, R207, R246, R247, R249, R305, R315, R320, R340, 92_eei_decisions.md D21, 92_eei_decisions.md D24).
A step is refused as a reserved configuration, and so is any instruction, exactly if some parameter has a value its table
marks "Reserved.", or P.NC is FFh, or MinimumSEVASID is above Fh, or no thread exists; in no other configuration is a step or
an instruction refused by that name. In a legal configuration: if the current thread is not in P.Threads, every instruction
is refused by the name of a thread that does not exist; if it is, every instruction answers a next state; the turn of a
thread outside P.Threads is a refusal whatever stands at its pc, by that name where CPUID stands there. That the check is
made at each step and instruction, and the two names, are the model's choice (log 13, DESIGN CHOICE; D24 speaks of
instantiation); the schedule of turns is log 4. -/
def Obligations.ReservedConfigurationIsRefused : Prop :=
  ∀ s : State,
    (step s = .refused .reservedConfiguration ↔ s.params.wellFormed = false) ∧
    (∀ i : Instr, exec i s = .refused .reservedConfiguration ↔ s.params.wellFormed = false) ∧
    (s.params.wellFormed = false ↔
      s.params.nc = 0xFF#8 ∨ s.params.pkgType ≠ 2#4 ∨
      (s.params.xFeatureSupportedSizeMax ≠ 0x240#32 ∧ s.params.xFeatureSupportedSizeMax ≠ 0x340#32) ∨
      (s.params.l2DTlb2and4MAssoc ≠ 2#4 ∧ s.params.l2DTlb2and4MAssoc ≠ 3#4) ∨
      (s.params.l2DTlb4KAssoc ≠ 5#4 ∧ s.params.l2DTlb4KAssoc ≠ 6#4) ∨
      s.params.l3Assoc ∉ [0x8#4, 0xA#4, 0xB#4, 0xC#4, 0xD#4, 0xE#4] ∨
      (s.params.l3NumSets ≠ 0xFFF#32 ∧ s.params.l3NumSets ≠ 0x1FFF#32) ∨
      s.params.nodesPerProcessor ∉ [0#3, 1#3, 3#3] ∨ 0xF < s.params.minimumSevAsid.toNat ∨
      ∀ t : ThreadId, (s.params.threadParams t).present = false) ∧
    (s.params.wellFormed = true →
      ((s.params.threadParams s.current).present = false → ∀ i : Instr, exec i s = .refused .noSuchThread) ∧
      ((s.params.threadParams s.current).present = true → ∀ i : Instr, ∃ u : State, exec i s = .next u) ∧
      ∀ (t : ThreadId) (ms : List Move), (s.params.threadParams t).present = false →
        (s.agenda = .run t :: ms ∨ (s.agenda = [] ∧ ms = [] ∧ s.current = t)) →
        (∃ r : Refusal, step s = .refused r) ∧
        (State.fetchBytes { s with current := t, agenda := ms } = [0x0F#8, 0xA2#8] → step s = .refused .noSuchThread))

/-- O40. A scheduled change of an input changes that input of that thread and nothing else (the schedule is the model's
field, log 4) (R26, 92_eei_decisions.md D26). In every state with a legal configuration whose next scheduled move is a change
of an input of thread t: the step answers a next state in which the move is off the schedule, every other thread, the
configuration, memory and the current thread are unchanged, thread t has its registers, pc, rFLAGS, overrides and free-value
key unchanged, and each of its inputs is unchanged but the one named, which has the new value. The schedule is the model's
(field agenda, log 4, DESIGN CHOICE). -/
def Obligations.EnvironmentChangesOneInput : Prop :=
  ∀ (s : State) (t : ThreadId) (ch : InputChange) (ms : List Move), s.params.wellFormed = true → s.agenda = .change t ch ::
    ms →
    ∃ u : State, step s = .next u ∧ u.agenda = ms ∧ u.current = s.current ∧ u.params = s.params ∧ u.mem = s.mem ∧
      (∀ w : ThreadId, w ≠ t → u.hart w = s.hart w) ∧
      (∀ r : Gpr, (u.hart t).fullGpr r = (s.hart t).fullGpr r) ∧ (u.hart t).pc = (s.hart t).pc ∧
      (u.hart t).rflags = (s.hart t).rflags ∧ (u.hart t).overrides = (s.hart t).overrides ∧
      (u.hart t).unlistedKey = (s.hart t).unlistedKey ∧
      (u.hart t).inputs.osxsave = (match ch with | .osxsave b => b | _ => (s.hart t).inputs.osxsave) ∧
      (u.hart t).inputs.monMwaitDis = (match ch with | .monMwaitDis b => b | _ => (s.hart t).inputs.monMwaitDis) ∧
      (u.hart t).inputs.apicEn = (match ch with | .apicEn b => b | _ => (s.hart t).inputs.apicEn) ∧
      (u.hart t).inputs.xcr0Avx = (match ch with | .xcr0Avx b => b | _ => (s.hart t).inputs.xcr0Avx) ∧
      (u.hart t).inputs.apicId = (match ch with | .apicId a => a | _ => (s.hart t).inputs.apicId) ∧
      (u.hart t).inputs.nasid = (match ch with | .nasid a => a | _ => (s.hart t).inputs.nasid) ∧
      (∀ (n : Fin 6) (k : Fin 8), ((u.hart t).inputs.procNameString.get n).get k =
        (match ch with
        | .procNameByte n' k' b => if n = n' ∧ k = k' then b else ((s.hart t).inputs.procNameString.get n).get k
        | _ => ((s.hart t).inputs.procNameString.get n).get k))

/-- O41. A change of an input is visible to the next CPUID of the thread, with no delay (the schedule is the model's field,
log 4) (R376, R64, 92_eei_decisions.md D16). In every state with a legal configuration, for every thread t of it with 0Fh A2h
at its pc. (1) Where a change of an input of t is scheduled and then t's turn, or where the change is all that is scheduled
and t is the current thread, the first step makes the change, the second runs CPUID, and the outputs are those of the leaf
under the changed inputs, all four from one snapshot of them. (2) Where any moves are scheduled before t's turn, changes of
t's and of other threads' inputs and turns of other threads among them, and they all step on, then t's turn (the next in the
schedule, or the current thread's where nothing is left scheduled) runs CPUID, and the outputs are those of the leaf under
t's inputs with every change of them made in order. The schedule is the model's (field agenda, log 4, DESIGN CHOICE); that
the change is seen at once is the spec's decision D16. -/
def Obligations.InputChangeVisibleToNextCpuid : Prop :=
  ∀ (s : State) (t : ThreadId), s.params.wellFormed = true → (s.params.threadParams t).present = true →
    State.fetchBytes { s with current := t } = [0x0F#8, 0xA2#8] →
    (∀ (ch : InputChange) (ms : List Move),
      (s.agenda = .change t ch :: .run t :: ms ∨ (s.agenda = [.change t ch] ∧ s.current = t)) →
      ∃ u w : State, step s = .next u ∧ step u = .next w ∧
        ∀ out : Gpr, (w.hart t).gpr out =
          ({ State.snapshot { s with current := t } with inp := (s.hart t).inputs.change ch } : Snapshot).leafOutput out) ∧
    (∀ (ms rest : List Move) (u : State), .run t ∉ ms → stepN ms.length s = .next u →
      (s.agenda = ms ++ .run t :: rest ∨ (s.agenda = ms ∧ u.current = t)) →
      ∃ w : State, step u = .next w ∧
        ∀ out : Gpr, (w.hart t).gpr out =
          ({ State.snapshot { s with current := t } with inp := inputsAfter t ms (s.hart t).inputs } : Snapshot).leafOutput
            out)

/-- O42. An encoding placed at pc is fetched and run by the very next step (R22, R62, R63, R80, R100). In every ready state,
for every register row: place its encoding (the bytes of CPUID at pc and pc + 1, the function in EAX, the subleaf in ECX);
the next step answers a next state in which the row's output register holds the row's value and pc has advanced by 2; memory
elsewhere reads as before. How a program is placed is the model's (log 2, log 11). -/
def Obligations.EncodingPlacedAtPcRuns : Prop :=
  ∀ (s : State) (i : Instr) (sel : Selector), s.Ready → i.selector = some sel →
    ∃ t : State, step (s.placeCode (encode i)) = .next t ∧
      t.self.gpr sel.out = rowValue i (s.placeCode (encode i)).snapshot ∧
      t.self.pc = advancePc s.params.pcWidth s.self.pc 2 ∧
      ∀ a : Nat, a ≠ (advancePc s.params.pcWidth s.self.pc 0).toNat → a ≠ (advancePc s.params.pcWidth s.self.pc 1).toNat →
        t.mem.readByte a = s.mem.readByte a

/-- O43. No step writes the configuration, the program bytes, an override or the flags (R23, R25, R60, R106, R109). Whenever
a step answers a next state: the configuration and every byte of memory are as before, and every thread has its overrides and
its rFLAGS as before. -/
def Obligations.NothingWritesTheConfiguration : Prop :=
  ∀ s t : State, step s = .next t → t.params = s.params ∧ t.mem = s.mem ∧
    ∀ u : ThreadId, (t.hart u).overrides = (s.hart u).overrides ∧ (t.hart u).rflags = (s.hart u).rflags

/-- O44. No instruction has an effect on the register file (R106). Whenever an instruction answers a next state: every
register of the file has the same value as before on every thread (one that holds no override), and no register is printed
with an access type other than Read-only and Read-only,Volatile (five registers print none). -/
def Obligations.RegisterFileIsReadOnly : Prop :=
  (∀ (s t : State) (i j : Instr) (u : ThreadId), i ≠ .cpuid → exec j s = .next t → (s.hart u).overrides = Overrides.none →
      rowValue i (State.snapshot { t with current := u }) = rowValue i (State.snapshot { s with current := u })) ∧
    (∀ i : Instr, i ≠ .cpuid → printedAccess i = .readOnly ∨ printedAccess i = .readOnlyVolatile ∨
      (printedAccess i = .nonePrinted ∧
        i ∈ [Instr.fn00000006_EBX, .fn00000006_EDX, .fn00000007_ECX_x00, .fn00000007_EDX_x00, .fn8000001D_EAX_x00]))

/-- O45. The state after reset has the invariant (R8, R22, R28). The configuration of State.reset is legal, its memory is in
canonical form and every pc fits. The values the spec does not give are the model's (log 5, 7, 11). -/
def Obligations.ResetHasTheInvariant : Prop :=
  State.reset.Inv

/-- O46. Every step keeps the invariant (R8, R22, R25). From every state with a legal configuration (R8), memory in canonical
form and every thread's pc within P.PcWidth bits (R22), a step that answers a next state answers one with the same three
properties. -/
def Obligations.StepKeepsTheInvariant : Prop :=
  ∀ s t : State, s.Inv → step s = .next t → t.Inv

/-- O47. After reset NASID is 0000_8000h, and the register shows it (R28, R261, R372). In State.reset every thread's input
NASID is 0000_8000h, the one input with a printed reset, and CPUID_Fn8000000A_EBX evaluated in the reset state is 0000_8000h.
-/
def Obligations.ResetOfNasid : Prop :=
  (∀ t : ThreadId, (State.reset.hart t).inputs.nasid = 0x00008000#32) ∧
    rowValue .fn8000000A_EBX State.reset.snapshot = 0x00008000#32

/-- O48. What a thread reads depends on its own registers, inputs and parameters only (R20, R107). Take two ready states with
the same current thread in the same state, and configurations that differ at most in the per-thread parameters of other
threads and the per-core parameter of other cores; other threads, memory and schedule may differ. Every instruction completes
in both and leaves the current thread in the same state. -/
def Obligations.ThreadReadsItsOwnInstance : Prop :=
  ∀ (s s' : State) (i : Instr), s.Ready → s'.current = s.current → s'.self = s.self →
    s'.params = { s.params with thread := s'.params.thread, numSharingCacheDC := s'.params.numSharingCacheDC } →
    s'.params.threadParams s.current = s.params.threadParams s.current →
    s'.params.dcSharing s.current = s.params.dcSharing s.current →
    ∃ t t' : State, exec i s = .next t ∧ exec i s' = .next t' ∧ t'.self = t.self

/-- O49. Executions of different threads commute: every interleaving gives every thread the same result (R67, R350). Take any
state and two schedules of thread runs that are permutations of each other. If the first schedule runs to its end, so does
the second, and both leave every thread in the same state, and the configuration, the memory and the (empty) schedule the
same. (Which thread moved last is the model's own field and may differ, log 4.) -/
def Obligations.ThreadsCommute : Prop :=
  ∀ (s t : State) (ts us : List ThreadId), ts.Perm us →
    stepN ts.length { s with agenda := ts.map Move.run } = .next t →
    ∃ u : State, stepN us.length { s with agenda := us.map Move.run } = .next u ∧
      (∀ w : ThreadId, u.hart w = t.hart w) ∧ u.params = t.params ∧ u.mem = t.mem ∧ u.agenda = [] ∧ t.agenda = []
end

