-- ==== Sys2Proof/Laws/State.lean ====
section
/-! SUPPORT. One lemma per field per update of the state, so that no proof unfolds a record update. -/

namespace Sys2Proof

/-- Two threads with one place in the table are one thread. -/
theorem ThreadId.index_inj {t u : ThreadId} (h : t.index = u.index) : t = u := by
  obtain ⟨⟨l, hl⟩, ⟨c, hc⟩, ⟨i, hi⟩⟩ := t
  obtain ⟨⟨l', hl'⟩, ⟨c', hc'⟩, ⟨i', hi'⟩⟩ := u
  simp only [ThreadId.index, Fin.mk.injEq] at h
  simp only [ThreadId.mk.injEq, Fin.mk.injEq]
  omega

/-- Every place in the table is some thread's. -/
theorem ThreadId.index_surj (i : Fin 16) : ∃ t : ThreadId, t.index = i := by
  refine ⟨⟨⟨i.val / 8, by omega⟩, ⟨i.val / 2 % 4, by omega⟩, ⟨i.val % 2, by omega⟩⟩, ?_⟩
  apply Fin.ext
  simp only [ThreadId.index]
  omega

namespace Machine

/-! Threads -/

@[simp] theorem State.setHart_params (s : State) (t : ThreadId) (h : Hart) : (s.setHart t h).params = s.params := rfl
@[simp] theorem State.setHart_mem (s : State) (t : ThreadId) (h : Hart) : (s.setHart t h).mem = s.mem := rfl
@[simp] theorem State.setHart_current (s : State) (t : ThreadId) (h : Hart) : (s.setHart t h).current = s.current := rfl
@[simp] theorem State.setHart_agenda (s : State) (t : ThreadId) (h : Hart) : (s.setHart t h).agenda = s.agenda := rfl

@[simp] theorem State.hart_setHart_same (s : State) (t : ThreadId) (h : Hart) : (s.setHart t h).hart t = h := by
  simp [State.hart, State.setHart, Vector.get_eq_getElem]

@[simp] theorem State.hart_setHart_ne (s : State) {t u : ThreadId} (h : Hart) (hne : u ≠ t) :
    (s.setHart t h).hart u = s.hart u := by
  have hi : t.index.val ≠ u.index.val := fun he => hne (ThreadId.index_inj (Fin.ext he)).symm
  simp [State.hart, State.setHart, Vector.get_eq_getElem, hi]

@[simp] theorem State.setHart_setHart (s : State) (t : ThreadId) (h h' : Hart) :
    (s.setHart t h).setHart t h' = s.setHart t h' := by
  simp [State.setHart]

@[simp] theorem State.setHart_hart (s : State) (t : ThreadId) : s.setHart t (s.hart t) = s := by
  simp [State.setHart, State.hart, Vector.get_eq_getElem]

theorem State.setHart_comm (s : State) {t u : ThreadId} (h h' : Hart) (hne : t ≠ u) :
    (s.setHart t h).setHart u h' = (s.setHart u h').setHart t h := by
  have hi : t.index.val ≠ u.index.val := fun he => hne (ThreadId.index_inj (Fin.ext he))
  simp only [State.setHart]
  congr 1
  exact Vector.set_comm _ _ hi

@[simp] theorem State.setSelf_params (s : State) (h : Hart) : (s.setSelf h).params = s.params := rfl
@[simp] theorem State.setSelf_mem (s : State) (h : Hart) : (s.setSelf h).mem = s.mem := rfl
@[simp] theorem State.setSelf_current (s : State) (h : Hart) : (s.setSelf h).current = s.current := rfl
@[simp] theorem State.setSelf_agenda (s : State) (h : Hart) : (s.setSelf h).agenda = s.agenda := rfl
@[simp] theorem State.self_setSelf (s : State) (h : Hart) : (s.setSelf h).self = h := State.hart_setHart_same s _ h
@[simp] theorem State.hart_setSelf_ne (s : State) {u : ThreadId} (h : Hart) (hne : u ≠ s.current) :
    (s.setSelf h).hart u = s.hart u := State.hart_setHart_ne s h hne
@[simp] theorem State.setSelf_setSelf (s : State) (h h' : Hart) : (s.setSelf h).setSelf h' = s.setSelf h' :=
  State.setHart_setHart s _ h h'

/-- Replacing the executing thread touches nothing else. -/
theorem onlyThread_setSelf (s : State) (h : Hart) : OnlyThread s.current s (s.setSelf h) :=
  ⟨rfl, rfl, rfl, rfl, fun _ hne => State.hart_setSelf_ne s h hne⟩

/-! Registers of one thread -/

@[simp] theorem Hart.fullGpr_writeGpr_same (h : Hart) (r : Gpr) (v : Word) :
    (h.writeGpr r v).fullGpr r = v.setWidth 64 := by cases r <;> rfl
@[simp] theorem Hart.fullGpr_writeGpr_ne (h : Hart) {r r' : Gpr} (v : Word) (hne : r' ≠ r) :
    (h.writeGpr r v).fullGpr r' = h.fullGpr r' := by cases r <;> cases r' <;> first | rfl | exact absurd rfl hne
@[simp] theorem Hart.gpr_writeGpr_same (h : Hart) (r : Gpr) (v : Word) : (h.writeGpr r v).gpr r = v := by
  simp [Hart.gpr]
@[simp] theorem Hart.gpr_writeGpr_ne (h : Hart) {r r' : Gpr} (v : Word) (hne : r' ≠ r) :
    (h.writeGpr r v).gpr r' = h.gpr r' := by simp [Hart.gpr, hne]
@[simp] theorem Hart.writeGpr_pc (h : Hart) (r : Gpr) (v : Word) : (h.writeGpr r v).pc = h.pc := by cases r <;> rfl
@[simp] theorem Hart.writeGpr_rflags (h : Hart) (r : Gpr) (v : Word) : (h.writeGpr r v).rflags = h.rflags := by
  cases r <;> rfl
@[simp] theorem Hart.writeGpr_inputs (h : Hart) (r : Gpr) (v : Word) : (h.writeGpr r v).inputs = h.inputs := by
  cases r <;> rfl
@[simp] theorem Hart.writeGpr_overrides (h : Hart) (r : Gpr) (v : Word) : (h.writeGpr r v).overrides = h.overrides := by
  cases r <;> rfl
@[simp] theorem Hart.writeGpr_unlistedKey (h : Hart) (r : Gpr) (v : Word) :
    (h.writeGpr r v).unlistedKey = h.unlistedKey := by cases r <;> rfl

/-! One output written -/

@[simp] theorem State.writeOutput_params (s : State) (r : Gpr) (w : Word) : (s.writeOutput r w).params = s.params := rfl
@[simp] theorem State.writeOutput_mem (s : State) (r : Gpr) (w : Word) : (s.writeOutput r w).mem = s.mem := rfl
@[simp] theorem State.writeOutput_current (s : State) (r : Gpr) (w : Word) : (s.writeOutput r w).current = s.current := rfl
@[simp] theorem State.writeOutput_agenda (s : State) (r : Gpr) (w : Word) : (s.writeOutput r w).agenda = s.agenda := rfl
@[simp] theorem State.self_writeOutput (s : State) (r : Gpr) (w : Word) :
    (s.writeOutput r w).self = s.self.writeGpr r w := State.self_setSelf s _
@[simp] theorem State.hart_writeOutput_ne (s : State) {u : ThreadId} (r : Gpr) (w : Word) (hne : u ≠ s.current) :
    (s.writeOutput r w).hart u = s.hart u := State.hart_setSelf_ne s _ hne

/-! The thread after `CPUID` -/

theorem Hart.afterCpuid_fullGpr (h : Hart) (v : Snapshot) (r : Gpr) :
    (h.afterCpuid v).fullGpr r = (v.leafOutput r).setWidth 64 := by cases r <;> rfl
@[simp] theorem Hart.afterCpuid_gpr (h : Hart) (v : Snapshot) (r : Gpr) : (h.afterCpuid v).gpr r = v.leafOutput r := by
  simp [Hart.gpr, Hart.afterCpuid_fullGpr]
@[simp] theorem Hart.afterCpuid_pc (h : Hart) (v : Snapshot) : (h.afterCpuid v).pc = advancePc v.p.pcWidth h.pc 2 := rfl
@[simp] theorem Hart.afterCpuid_rflags (h : Hart) (v : Snapshot) : (h.afterCpuid v).rflags = h.rflags := rfl
@[simp] theorem Hart.afterCpuid_inputs (h : Hart) (v : Snapshot) : (h.afterCpuid v).inputs = h.inputs := rfl
@[simp] theorem Hart.afterCpuid_overrides (h : Hart) (v : Snapshot) : (h.afterCpuid v).overrides = h.overrides := rfl
@[simp] theorem Hart.afterCpuid_unlistedKey (h : Hart) (v : Snapshot) : (h.afterCpuid v).unlistedKey = v.keyAfter := rfl

/-- Where every output has a register and the feature register is not replaced, the key stays. -/
theorem Snapshot.keyAfter_of_listed {v : Snapshot} (hl : ∀ out, (decodePoint ⟨v.fn, v.sub, out⟩).isSome = true)
    (ho : v.ov.featureExtIdEcx = none) : v.keyAfter = v.key := by
  have hn : ∀ out, (decodePoint ⟨v.fn, v.sub, out⟩).isNone = false := fun out => by
    rw [← Option.not_isSome, hl out]; rfl
  simp [Snapshot.keyAfter, Snapshot.meetsUnlisted, hn, ho]

/-! The environment's move -/

@[simp] theorem State.changeInput_params (s : State) (t : ThreadId) (ch : InputChange) :
    (s.changeInput t ch).params = s.params := rfl
@[simp] theorem State.changeInput_mem (s : State) (t : ThreadId) (ch : InputChange) : (s.changeInput t ch).mem = s.mem := rfl
@[simp] theorem State.changeInput_current (s : State) (t : ThreadId) (ch : InputChange) :
    (s.changeInput t ch).current = s.current := rfl
@[simp] theorem State.changeInput_agenda (s : State) (t : ThreadId) (ch : InputChange) :
    (s.changeInput t ch).agenda = s.agenda := rfl
@[simp] theorem State.hart_changeInput_same (s : State) (t : ThreadId) (ch : InputChange) :
    (s.changeInput t ch).hart t = { s.hart t with inputs := (s.hart t).inputs.change ch } :=
  State.hart_setHart_same s t _
@[simp] theorem State.hart_changeInput_ne (s : State) {t u : ThreadId} (ch : InputChange) (hne : u ≠ t) :
    (s.changeInput t ch).hart u = s.hart u := State.hart_setHart_ne s _ hne

/-! The snapshot -/

@[simp] theorem State.snapshot_p (s : State) : s.snapshot.p = s.params := rfl
@[simp] theorem State.snapshot_t (s : State) : s.snapshot.t = s.current := rfl
@[simp] theorem State.snapshot_inp (s : State) : s.snapshot.inp = s.self.inputs := rfl
@[simp] theorem State.snapshot_ov (s : State) : s.snapshot.ov = s.self.overrides := rfl
@[simp] theorem State.snapshot_key (s : State) : s.snapshot.key = s.self.unlistedKey := rfl
@[simp] theorem State.snapshot_fn (s : State) : s.snapshot.fn = s.self.functionIn := rfl
@[simp] theorem State.snapshot_sub (s : State) : s.snapshot.sub = s.self.subleafIn := rfl

end Machine

end Sys2Proof
end

