-- ==== Sys2Proof/Laws/Ops.lean ====
section
/-! SUPPORT. For each shared operation, once, everything it can do. -/

namespace Sys2Proof.Machine

/-! Memory -/

theorem Memory.readByte_writeByte_same (m : Memory) (a : Nat) (b : Byte) : (m.writeByte a b).readByte a = some b := by
  induction m with
  | nil => simp [Memory.writeByte, Memory.readByte]
  | cons c m ih =>
    unfold Memory.writeByte
    split
    · simp [Memory.readByte]
    · split
      · simp [Memory.readByte]
      · rename_i hne
        have : c.1 ≠ a := fun h => hne h.symm
        simp [Memory.readByte, this, ih]

theorem Memory.readByte_writeByte_ne (m : Memory) {a a' : Nat} (b : Byte) (hne : a' ≠ a) :
    (m.writeByte a b).readByte a' = m.readByte a' := by
  have hne' : a ≠ a' := fun h => hne h.symm
  induction m with
  | nil => simp [Memory.writeByte, Memory.readByte, hne']
  | cons c m ih =>
    unfold Memory.writeByte
    split
    · simp [Memory.readByte, hne']
    · split
      · rename_i he
        have : c.1 ≠ a' := fun h => hne' (he.trans h)
        simp [Memory.readByte, hne', this]
      · simp [Memory.readByte, ih]

/-- The first address of a memory in canonical form is below the next. -/
theorem Memory.wf_cons {c : Host.Cell} {m : Memory} :
    Memory.wf (c :: m) = true ↔ c.1 < 2 ^ 64 ∧ m.wf = true ∧ ∀ d ∈ m.head?, c.1 < d.1 := by
  cases m with
  | nil => simp [Memory.wf]
  | cons d m =>
    simp only [Memory.wf, Bool.and_eq_true, decide_eq_true_eq, List.head?_cons, Option.mem_def, Option.some.injEq]
    constructor
    · rintro ⟨h, hw⟩
      refine ⟨?_, hw, fun e he => he ▸ h⟩
      cases m with
      | nil => simp [Memory.wf] at hw; omega
      | cons e m =>
        have : ∀ (l : Memory) (x : Host.Cell), Memory.wf (x :: l) = true → x.1 < 2 ^ 64 := by
          intro l
          induction l with
          | nil => intro x hx; simpa [Memory.wf] using hx
          | cons y l ih =>
            intro x hx
            simp only [Memory.wf, Bool.and_eq_true, decide_eq_true_eq] at hx
            exact Nat.lt_trans hx.1 (ih y hx.2)
        exact Nat.lt_trans h (this _ _ hw)
    · rintro ⟨_, hw, h⟩
      exact ⟨h d rfl, hw⟩

/-- The head of a memory after a write is the old head or the written byte. -/
theorem Memory.head_writeByte (m : Memory) (a : Nat) (b : Byte) (d : Host.Cell) (hd : d ∈ (m.writeByte a b).head?) :
    d = (a, b) ∨ d ∈ m.head? := by
  cases m with
  | nil =>
    simp [Memory.writeByte] at hd
    exact .inl hd.symm
  | cons c m =>
    unfold Memory.writeByte at hd
    split at hd
    · simp at hd; exact .inl hd.symm
    · split at hd
      · simp at hd; exact .inl hd.symm
      · simp at hd; exact .inr (by simp [hd])

/-- A write inside the address space keeps the canonical form. -/
theorem Memory.wf_writeByte (m : Memory) (a : Nat) (b : Byte) (hm : m.wf = true) (ha : a < 2 ^ 64) :
    (m.writeByte a b).wf = true := by
  induction m with
  | nil => simpa [Memory.writeByte, Memory.wf] using ha
  | cons c m ih =>
    obtain ⟨hc, hw, hh⟩ := Memory.wf_cons.mp hm
    unfold Memory.writeByte
    split
    · rename_i hlt
      simp only [Memory.wf, Bool.and_eq_true, decide_eq_true_eq]
      exact ⟨hlt, hm⟩
    · split
      · rename_i _ he
        exact Memory.wf_cons.mpr ⟨ha, hw, fun d hd => he ▸ hh d hd⟩
      · rename_i h1 h2
        refine Memory.wf_cons.mpr ⟨hc, ih hw, fun d hd => ?_⟩
        rcases Memory.head_writeByte m a b d hd with rfl | hd
        · show c.1 < a; omega
        · exact hh d hd

/-- Reset memory is in canonical form. -/
theorem Memory.wf_reset : Memory.wf State.reset.mem = true := rfl

/-- Placing bytes keeps the canonical form. -/
theorem State.wf_placeBytesFrom (s : State) (bs : List Byte) (n : Nat) (hm : s.mem.wf = true) :
    Memory.wf (s.placeBytesFrom n bs) = true := by
  induction bs generalizing n with
  | nil => exact hm
  | cons b bs ih => exact Memory.wf_writeByte _ _ _ (ih (n + 1)) (BitVec.isLt _)

/-- What `withFetchWord` leaves in memory is in canonical form. -/
theorem State.wf_withFetchWord (s : State) (nbits w : Nat) (hm : s.mem.wf = true) :
    Memory.wf (s.withFetchWord nbits w).mem = true := by
  unfold State.withFetchWord
  cases codeOfTableWord nbits w with
  | none => exact hm
  | some c => cases c <;> exact State.wf_placeBytesFrom s _ _ hm

/-! The instruction pointer -/

@[simp] theorem wrapPc_wrapPc (w : PcWidth) (pc : QWord) : wrapPc w (wrapPc w pc) = wrapPc w pc := by
  cases w <;> simp [wrapPc]

/-- pc arithmetic stays inside `P.PcWidth` bits. -/
theorem pcFits_advancePc (w : PcWidth) (pc : QWord) (n : Nat) : pcFits w (advancePc w pc n) := wrapPc_wrapPc w _

/-- pc arithmetic on numbers: addition modulo 2^`P.PcWidth`. -/
theorem advancePc_toNat (w : PcWidth) (pc : QWord) (n : Nat) :
    (advancePc w pc n).toNat = (pc.toNat + n) % 2 ^ pcBits w := by
  cases w <;> simp only [advancePc, wrapPc, pcBits, BitVec.toNat_setWidth, BitVec.toNat_add, BitVec.toNat_ofNat] <;> omega

/-! Outcomes -/

/-- If a guarded outcome is a next state, the guard holds and the outcome is the guarded one. -/
theorem State.whenReady_next {s s' : State} {k : Host.Outcome State Fault Refusal} (h : s.whenReady k = .next s') :
    s.Ready ∧ k = .next s' := by
  unfold State.whenReady at h
  split at h
  · split at h
    · exact ⟨⟨‹_›, ‹_›⟩, h⟩
    · cases h
  · cases h

theorem State.whenReady_of_ready {s : State} (h : s.Ready) (k : Host.Outcome State Fault Refusal) : s.whenReady k = k := by
  simp [State.whenReady, h.1, h.2]

/-- Every register row's arm is the shared meaning of the rows at that row's value. -/
theorem exec_row (i : Instr) (h : i ≠ .cpuid) (s : State) : exec i s = execRow i (rowValue i) s := by
  cases i <;> first | rfl | exact absurd rfl h

/-- Every row but `CPUID` has a selector. -/
theorem selector_isSome (i : Instr) (h : i ≠ .cpuid) : ∃ sel, i.selector = some sel := by
  cases i <;> first | exact ⟨_, rfl⟩ | exact absurd rfl h

/-- A row alone: it writes its output where its selector accepts, and nothing where it does not. -/
theorem execRow_of_ready {s : State} (h : s.Ready) {i : Instr} {sel : Selector} (hs : i.selector = some sel)
    (value : Snapshot → Word) :
    execRow i value s =
      if sel.accepts s.self.functionIn s.self.subleafIn then .next (s.writeOutput sel.out (value s.snapshot))
      else .next s := by
  simp [execRow, State.whenReady_of_ready h, hs]

/-- Everything a row alone can do when it answers a next state. -/
theorem execRow_next {s s' : State} {i : Instr} {value : Snapshot → Word} (h : execRow i value s = .next s') :
    s.Ready ∧ (s' = s ∨ ∃ out, s' = s.writeOutput out (value s.snapshot)) := by
  obtain ⟨hr, hk⟩ := State.whenReady_next h
  refine ⟨hr, ?_⟩
  split at hk
  · exact .inl (by cases hk; rfl)
  · split at hk
    · exact .inr ⟨_, by cases hk; rfl⟩
    · exact .inl (by cases hk; rfl)

theorem exec_cpuid_of_ready {s : State} (h : s.Ready) :
    exec .cpuid s = .next (s.setSelf (s.self.afterCpuid s.snapshot)) := State.whenReady_of_ready h _

/-- Everything an instruction can do: it answers a next state, in which only the executing thread differs. -/
theorem exec_next {s s' : State} {i : Instr} (h : exec i s = .next s') :
    s.Ready ∧ ∃ hart, s' = s.setSelf hart ∧ hart.inputs = s.self.inputs ∧ hart.overrides = s.self.overrides ∧
      hart.rflags = s.self.rflags ∧ (hart.pc = s.self.pc ∨ hart.pc = advancePc s.params.pcWidth s.self.pc 2) := by
  by_cases hi : i = .cpuid
  · subst hi
    obtain ⟨hr, hk⟩ := State.whenReady_next h
    cases hk
    exact ⟨hr, _, rfl, rfl, rfl, rfl, .inr rfl⟩
  · rw [exec_row i hi] at h
    obtain ⟨hr, rfl | ⟨out, rfl⟩⟩ := execRow_next h
    · exact ⟨hr, s'.self, (State.setHart_hart s' _).symm, rfl, rfl, rfl, .inl rfl⟩
    · exact ⟨hr, _, rfl, by simp, by simp, by simp, .inl (by simp)⟩

/-- Everything an instruction can answer: one next state, behind the two checks of readiness. -/
theorem exec_eq_whenReady (i : Instr) (s : State) : ∃ s', exec i s = s.whenReady (.next s') := by
  by_cases hi : i = .cpuid
  · subst hi
    exact ⟨_, rfl⟩
  · obtain ⟨sel, hs⟩ := selector_isSome i hi
    rw [exec_row i hi]
    simp only [execRow, hs]
    split <;> exact ⟨_, rfl⟩

/-- No instruction faults. -/
theorem exec_not_fault (i : Instr) (s : State) (f : Fault) : exec i s ≠ .fault f := nomatch f

/-- The decoder answers one instruction only. -/
theorem decode_ok {bs rest : List Byte} {i : Instr} :
    decode bs = .ok (i, rest) ↔ i = .cpuid ∧ bs = 0x0F#8 :: 0xA2#8 :: rest := by
  constructor
  · intro h
    match bs with
    | [] => simp [decode] at h
    | [b0] =>
      simp only [decode] at h
      split at h
      · cases h
      · split at h <;> cases h
    | b0 :: b1 :: r =>
      simp only [decode] at h
      split at h
      · rename_i hb
        cases h
        exact ⟨rfl, by rw [hb.1, hb.2]⟩
      · split at h <;> cases h
  · rintro ⟨rfl, rfl⟩
    rfl

/-- Everything a thread's turn can do. -/
theorem runThread_next {s s' : State} (h : runThread s = .next s') :
    ∃ rest, s.fetchBytes = 0x0F#8 :: 0xA2#8 :: rest ∧ s.Ready ∧ s' = s.setSelf (s.self.afterCpuid s.snapshot) := by
  unfold runThread at h
  split at h
  · rename_i i rest hd
    obtain ⟨rfl, hb⟩ := decode_ok.mp hd
    obtain ⟨hr, hk⟩ := State.whenReady_next h
    cases hk
    exact ⟨rest, hb, hr, rfl⟩
  · cases h

/-- Everything a step can do when it answers a next state. -/
theorem step_next {s s' : State} (h : step s = .next s') :
    s.params.wellFormed = true ∧
      ((s.agenda = [] ∧ runThread s = .next s') ∨
        (∃ t rest, s.agenda = .run t :: rest ∧ runThread { s with current := t, agenda := rest } = .next s') ∨
        (∃ t ch rest, s.agenda = .change t ch :: rest ∧
          s' = State.changeInput { s with agenda := rest } t ch)) := by
  unfold step at h
  split at h
  · refine ⟨‹_›, ?_⟩
    split at h
    · exact .inl ⟨‹_›, h⟩
    · exact .inr (.inl ⟨_, _, ‹_›, h⟩)
    · exact .inr (.inr ⟨_, _, _, ‹_›, by cases h; rfl⟩)
  · cases h

theorem stepN_zero (s : State) : stepN 0 s = .next s := rfl

/-- The first step of several, taken off. -/
theorem stepN_succ {s s' : State} (n : Nat) (h : step s = .next s') : stepN (n + 1) s = stepN n s' := by
  show andThen (step s) (stepN n) = _
  rw [h, andThen]

/-- Several steps that answer a next state begin with one that does. -/
theorem stepN_succ_next {s s' : State} {n : Nat} (h : stepN (n + 1) s = .next s') :
    ∃ r, step s = .next r ∧ stepN n r = .next s' := by
  have h' : andThen (step s) (stepN n) = .next s' := h
  generalize step s = o at h' ⊢
  cases o with
  | next r => exact ⟨r, rfl, h'⟩
  | fault f => cases h'
  | refused r => cases h'

/-- The fetch finds at most two bytes. -/
theorem State.fetchBytes_length (s : State) : s.fetchBytes.length ≤ 2 := by
  simp only [State.fetchBytes]
  split
  · simp
  · split <;> simp

/-! The selector space -/

/-- A register row is reached only through a leaf of the table that matches. -/
theorem decodePoint_some {p : Point} {i : Instr} (h : decodePoint p = some i) :
    ∃ lf ∈ leafTable, lf.matches p.fn p.sub = true ∧ lf.row p.out = some i := by
  unfold decodePoint at h
  cases hf : leafTable.find? (fun lf => lf.matches p.fn p.sub) with
  | none => rw [hf] at h; cases h
  | some lf =>
    rw [hf] at h
    exact ⟨lf, List.mem_of_find?_eq_some hf, by simpa using List.find?_some hf, h⟩

/-! Fields -/

@[simp] theorem compose_nil : compose [] = 0#32 := rfl
@[simp] theorem compose_cons (f : Field) (fs : List Field) : compose (f :: fs) = (f.value <<< f.lo) ||| compose fs := rfl

/-- With no override written, a register that one could replace has its own value. -/
@[simp] theorem overridden_none (v : Word) : overridden none v = v := rfl
@[simp] theorem overridden_some (w v : Word) : overridden (some w) v = w := rfl

/-! Inputs -/

/-- The moves of a schedule, one more taken off: what it does to a thread's inputs. -/
@[simp] theorem inputsAfter_nil (t : ThreadId) (i : Inputs) : inputsAfter t [] i = i := rfl
@[simp] theorem inputsAfter_run (t u : ThreadId) (ms : List Move) (i : Inputs) :
    inputsAfter t (.run u :: ms) i = inputsAfter t ms i := rfl
@[simp] theorem inputsAfter_change_same (t : ThreadId) (ch : InputChange) (ms : List Move) (i : Inputs) :
    inputsAfter t (.change t ch :: ms) i = inputsAfter t ms (i.change ch) := by simp [inputsAfter]
@[simp] theorem inputsAfter_change_ne {t u : ThreadId} (hne : u ≠ t) (ch : InputChange) (ms : List Move) (i : Inputs) :
    inputsAfter t (.change u ch :: ms) i = inputsAfter t ms i := by simp [inputsAfter, hne]

/-- One change changes one input: for each input, its value after. -/
theorem Inputs.change_nasid (i : Inputs) (ch : InputChange) :
    (i.change ch).nasid = (match ch with | .nasid v => v | _ => i.nasid) := by cases ch <;> rfl
theorem Inputs.change_osxsave (i : Inputs) (ch : InputChange) :
    (i.change ch).osxsave = (match ch with | .osxsave b => b | _ => i.osxsave) := by cases ch <;> rfl
theorem Inputs.change_monMwaitDis (i : Inputs) (ch : InputChange) :
    (i.change ch).monMwaitDis = (match ch with | .monMwaitDis b => b | _ => i.monMwaitDis) := by cases ch <;> rfl
theorem Inputs.change_apicEn (i : Inputs) (ch : InputChange) :
    (i.change ch).apicEn = (match ch with | .apicEn b => b | _ => i.apicEn) := by cases ch <;> rfl
theorem Inputs.change_xcr0Avx (i : Inputs) (ch : InputChange) :
    (i.change ch).xcr0Avx = (match ch with | .xcr0Avx b => b | _ => i.xcr0Avx) := by cases ch <;> rfl
theorem Inputs.change_apicId (i : Inputs) (ch : InputChange) :
    (i.change ch).apicId = (match ch with | .apicId v => v | _ => i.apicId) := by cases ch <;> rfl

end Sys2Proof.Machine
end

