-- ==== Sys2Proof/Laws/PerInstr.lean ====
section
/-! SUPPORT. A statement for each row of the opcode table: the row stands in the leaf table of R101 exactly where its own name
puts it (R82), and has no operand (R81). -/

namespace Sys2Proof.Laws

/-- The row is well formed, and the selector of its name is a column of a leaf of the table that holds this row; `CPUID`
itself has no selector and its two bytes for an encoding. -/
def SelectorSyntax.Statement (i : Instr) : Prop :=
  i.wellFormed = true ∧
    match i.selector with
    | none => i = .cpuid ∧ encode i = .bytes [0x0F#8, 0xA2#8]
    | some sel => leafTable.any (fun lf => lf.fn == sel.fn && lf.sub == sel.sub && lf.row sel.out == some i) = true

theorem SelectorSyntax.cpuid : SelectorSyntax.Statement .cpuid := ⟨rfl, rfl, rfl⟩
theorem SelectorSyntax.fn00000000_EAX : SelectorSyntax.Statement .fn00000000_EAX := ⟨rfl, rfl⟩
theorem SelectorSyntax.fn00000000_EBX : SelectorSyntax.Statement .fn00000000_EBX := ⟨rfl, rfl⟩
theorem SelectorSyntax.fn00000000_ECX : SelectorSyntax.Statement .fn00000000_ECX := ⟨rfl, rfl⟩
theorem SelectorSyntax.fn00000000_EDX : SelectorSyntax.Statement .fn00000000_EDX := ⟨rfl, rfl⟩
theorem SelectorSyntax.fn00000001_EAX : SelectorSyntax.Statement .fn00000001_EAX := ⟨rfl, rfl⟩
theorem SelectorSyntax.fn00000001_EBX : SelectorSyntax.Statement .fn00000001_EBX := ⟨rfl, rfl⟩
theorem SelectorSyntax.fn00000001_ECX : SelectorSyntax.Statement .fn00000001_ECX := ⟨rfl, rfl⟩
theorem SelectorSyntax.fn00000001_EDX : SelectorSyntax.Statement .fn00000001_EDX := ⟨rfl, rfl⟩
theorem SelectorSyntax.fn00000005_EAX : SelectorSyntax.Statement .fn00000005_EAX := ⟨rfl, rfl⟩
theorem SelectorSyntax.fn00000005_EBX : SelectorSyntax.Statement .fn00000005_EBX := ⟨rfl, rfl⟩
theorem SelectorSyntax.fn00000005_ECX : SelectorSyntax.Statement .fn00000005_ECX := ⟨rfl, rfl⟩
theorem SelectorSyntax.fn00000005_EDX : SelectorSyntax.Statement .fn00000005_EDX := ⟨rfl, rfl⟩
theorem SelectorSyntax.fn00000006_EAX : SelectorSyntax.Statement .fn00000006_EAX := ⟨rfl, rfl⟩
theorem SelectorSyntax.fn00000006_EBX : SelectorSyntax.Statement .fn00000006_EBX := ⟨rfl, rfl⟩
theorem SelectorSyntax.fn00000006_ECX : SelectorSyntax.Statement .fn00000006_ECX := ⟨rfl, rfl⟩
theorem SelectorSyntax.fn00000006_EDX : SelectorSyntax.Statement .fn00000006_EDX := ⟨rfl, rfl⟩
theorem SelectorSyntax.fn00000007_EAX_x00 : SelectorSyntax.Statement .fn00000007_EAX_x00 := ⟨rfl, rfl⟩
theorem SelectorSyntax.fn00000007_EBX_x00 : SelectorSyntax.Statement .fn00000007_EBX_x00 := ⟨rfl, rfl⟩
theorem SelectorSyntax.fn00000007_ECX_x00 : SelectorSyntax.Statement .fn00000007_ECX_x00 := ⟨rfl, rfl⟩
theorem SelectorSyntax.fn00000007_EDX_x00 : SelectorSyntax.Statement .fn00000007_EDX_x00 := ⟨rfl, rfl⟩
theorem SelectorSyntax.fn0000000B_EAX : SelectorSyntax.Statement .fn0000000B_EAX := ⟨rfl, rfl⟩
theorem SelectorSyntax.fn0000000B_EBX : SelectorSyntax.Statement .fn0000000B_EBX := ⟨rfl, rfl⟩
theorem SelectorSyntax.fn0000000B_ECX : SelectorSyntax.Statement .fn0000000B_ECX := ⟨rfl, rfl⟩
theorem SelectorSyntax.fn0000000B_EDX : SelectorSyntax.Statement .fn0000000B_EDX := ⟨rfl, rfl⟩
theorem SelectorSyntax.fn0000000D_EAX_x00 : SelectorSyntax.Statement .fn0000000D_EAX_x00 := ⟨rfl, rfl⟩
theorem SelectorSyntax.fn0000000D_EBX_x00 : SelectorSyntax.Statement .fn0000000D_EBX_x00 := ⟨rfl, rfl⟩
theorem SelectorSyntax.fn0000000D_ECX_x00 : SelectorSyntax.Statement .fn0000000D_ECX_x00 := ⟨rfl, rfl⟩
theorem SelectorSyntax.fn0000000D_EDX_x00 : SelectorSyntax.Statement .fn0000000D_EDX_x00 := ⟨rfl, rfl⟩
theorem SelectorSyntax.fn0000000D_EAX_x01 : SelectorSyntax.Statement .fn0000000D_EAX_x01 := ⟨rfl, rfl⟩
theorem SelectorSyntax.fn0000000D_EBX_x01 : SelectorSyntax.Statement .fn0000000D_EBX_x01 := ⟨rfl, rfl⟩
theorem SelectorSyntax.fn0000000D_ECX_x01 : SelectorSyntax.Statement .fn0000000D_ECX_x01 := ⟨rfl, rfl⟩
theorem SelectorSyntax.fn0000000D_EDX_x01 : SelectorSyntax.Statement .fn0000000D_EDX_x01 := ⟨rfl, rfl⟩
theorem SelectorSyntax.fn0000000D_EAX_x02 : SelectorSyntax.Statement .fn0000000D_EAX_x02 := ⟨rfl, rfl⟩
theorem SelectorSyntax.fn0000000D_EBX_x02 : SelectorSyntax.Statement .fn0000000D_EBX_x02 := ⟨rfl, rfl⟩
theorem SelectorSyntax.fn0000000D_ECX_x02 : SelectorSyntax.Statement .fn0000000D_ECX_x02 := ⟨rfl, rfl⟩
theorem SelectorSyntax.fn0000000D_EDX_x02 : SelectorSyntax.Statement .fn0000000D_EDX_x02 := ⟨rfl, rfl⟩
theorem SelectorSyntax.fn80000000_EAX : SelectorSyntax.Statement .fn80000000_EAX := ⟨rfl, rfl⟩
theorem SelectorSyntax.fn80000000_EBX : SelectorSyntax.Statement .fn80000000_EBX := ⟨rfl, rfl⟩
theorem SelectorSyntax.fn80000000_ECX : SelectorSyntax.Statement .fn80000000_ECX := ⟨rfl, rfl⟩
theorem SelectorSyntax.fn80000000_EDX : SelectorSyntax.Statement .fn80000000_EDX := ⟨rfl, rfl⟩
theorem SelectorSyntax.fn80000001_EAX : SelectorSyntax.Statement .fn80000001_EAX := ⟨rfl, rfl⟩
theorem SelectorSyntax.fn80000001_EBX : SelectorSyntax.Statement .fn80000001_EBX := ⟨rfl, rfl⟩
theorem SelectorSyntax.fn80000001_ECX : SelectorSyntax.Statement .fn80000001_ECX := ⟨rfl, rfl⟩
theorem SelectorSyntax.fn80000001_EDX : SelectorSyntax.Statement .fn80000001_EDX := ⟨rfl, rfl⟩
theorem SelectorSyntax.fn80000002_EAX : SelectorSyntax.Statement .fn80000002_EAX := ⟨rfl, rfl⟩
theorem SelectorSyntax.fn80000002_EBX : SelectorSyntax.Statement .fn80000002_EBX := ⟨rfl, rfl⟩
theorem SelectorSyntax.fn80000002_ECX : SelectorSyntax.Statement .fn80000002_ECX := ⟨rfl, rfl⟩
theorem SelectorSyntax.fn80000002_EDX : SelectorSyntax.Statement .fn80000002_EDX := ⟨rfl, rfl⟩
theorem SelectorSyntax.fn80000003_EAX : SelectorSyntax.Statement .fn80000003_EAX := ⟨rfl, rfl⟩
theorem SelectorSyntax.fn80000003_EBX : SelectorSyntax.Statement .fn80000003_EBX := ⟨rfl, rfl⟩
theorem SelectorSyntax.fn80000003_ECX : SelectorSyntax.Statement .fn80000003_ECX := ⟨rfl, rfl⟩
theorem SelectorSyntax.fn80000003_EDX : SelectorSyntax.Statement .fn80000003_EDX := ⟨rfl, rfl⟩
theorem SelectorSyntax.fn80000004_EAX : SelectorSyntax.Statement .fn80000004_EAX := ⟨rfl, rfl⟩
theorem SelectorSyntax.fn80000004_EBX : SelectorSyntax.Statement .fn80000004_EBX := ⟨rfl, rfl⟩
theorem SelectorSyntax.fn80000004_ECX : SelectorSyntax.Statement .fn80000004_ECX := ⟨rfl, rfl⟩
theorem SelectorSyntax.fn80000004_EDX : SelectorSyntax.Statement .fn80000004_EDX := ⟨rfl, rfl⟩
theorem SelectorSyntax.fn80000005_EAX : SelectorSyntax.Statement .fn80000005_EAX := ⟨rfl, rfl⟩
theorem SelectorSyntax.fn80000005_EBX : SelectorSyntax.Statement .fn80000005_EBX := ⟨rfl, rfl⟩
theorem SelectorSyntax.fn80000005_ECX : SelectorSyntax.Statement .fn80000005_ECX := ⟨rfl, rfl⟩
theorem SelectorSyntax.fn80000005_EDX : SelectorSyntax.Statement .fn80000005_EDX := ⟨rfl, rfl⟩
theorem SelectorSyntax.fn80000006_EAX : SelectorSyntax.Statement .fn80000006_EAX := ⟨rfl, rfl⟩
theorem SelectorSyntax.fn80000006_EBX : SelectorSyntax.Statement .fn80000006_EBX := ⟨rfl, rfl⟩
theorem SelectorSyntax.fn80000006_ECX : SelectorSyntax.Statement .fn80000006_ECX := ⟨rfl, rfl⟩
theorem SelectorSyntax.fn80000006_EDX : SelectorSyntax.Statement .fn80000006_EDX := ⟨rfl, rfl⟩
theorem SelectorSyntax.fn80000007_EAX : SelectorSyntax.Statement .fn80000007_EAX := ⟨rfl, rfl⟩
theorem SelectorSyntax.fn80000007_EBX : SelectorSyntax.Statement .fn80000007_EBX := ⟨rfl, rfl⟩
theorem SelectorSyntax.fn80000007_ECX : SelectorSyntax.Statement .fn80000007_ECX := ⟨rfl, rfl⟩
theorem SelectorSyntax.fn80000007_EDX : SelectorSyntax.Statement .fn80000007_EDX := ⟨rfl, rfl⟩
theorem SelectorSyntax.fn80000008_EAX : SelectorSyntax.Statement .fn80000008_EAX := ⟨rfl, rfl⟩
theorem SelectorSyntax.fn80000008_EBX : SelectorSyntax.Statement .fn80000008_EBX := ⟨rfl, rfl⟩
theorem SelectorSyntax.fn80000008_ECX : SelectorSyntax.Statement .fn80000008_ECX := ⟨rfl, rfl⟩
theorem SelectorSyntax.fn8000000A_EAX : SelectorSyntax.Statement .fn8000000A_EAX := ⟨rfl, rfl⟩
theorem SelectorSyntax.fn8000000A_EBX : SelectorSyntax.Statement .fn8000000A_EBX := ⟨rfl, rfl⟩
theorem SelectorSyntax.fn8000000A_EDX : SelectorSyntax.Statement .fn8000000A_EDX := ⟨rfl, rfl⟩
theorem SelectorSyntax.fn80000019_EAX : SelectorSyntax.Statement .fn80000019_EAX := ⟨rfl, rfl⟩
theorem SelectorSyntax.fn80000019_EBX : SelectorSyntax.Statement .fn80000019_EBX := ⟨rfl, rfl⟩
theorem SelectorSyntax.fn8000001A_EAX : SelectorSyntax.Statement .fn8000001A_EAX := ⟨rfl, rfl⟩
theorem SelectorSyntax.fn8000001B_EAX : SelectorSyntax.Statement .fn8000001B_EAX := ⟨rfl, rfl⟩
theorem SelectorSyntax.fn8000001D_EAX_x00 : SelectorSyntax.Statement .fn8000001D_EAX_x00 := ⟨rfl, rfl⟩
theorem SelectorSyntax.fn8000001D_EAX_x01 : SelectorSyntax.Statement .fn8000001D_EAX_x01 := ⟨rfl, rfl⟩
theorem SelectorSyntax.fn8000001D_EAX_x02 : SelectorSyntax.Statement .fn8000001D_EAX_x02 := ⟨rfl, rfl⟩
theorem SelectorSyntax.fn8000001D_EAX_x03 : SelectorSyntax.Statement .fn8000001D_EAX_x03 := ⟨rfl, rfl⟩
theorem SelectorSyntax.fn8000001D_EAX_x04 : SelectorSyntax.Statement .fn8000001D_EAX_x04 := ⟨rfl, rfl⟩
theorem SelectorSyntax.fn8000001D_EBX_x00 : SelectorSyntax.Statement .fn8000001D_EBX_x00 := ⟨rfl, rfl⟩
theorem SelectorSyntax.fn8000001D_EBX_x01 : SelectorSyntax.Statement .fn8000001D_EBX_x01 := ⟨rfl, rfl⟩
theorem SelectorSyntax.fn8000001D_EBX_x02 : SelectorSyntax.Statement .fn8000001D_EBX_x02 := ⟨rfl, rfl⟩
theorem SelectorSyntax.fn8000001D_EBX_x03 : SelectorSyntax.Statement .fn8000001D_EBX_x03 := ⟨rfl, rfl⟩
theorem SelectorSyntax.fn8000001D_EBX_x04 : SelectorSyntax.Statement .fn8000001D_EBX_x04 := ⟨rfl, rfl⟩
theorem SelectorSyntax.fn8000001D_ECX_x00 : SelectorSyntax.Statement .fn8000001D_ECX_x00 := ⟨rfl, rfl⟩
theorem SelectorSyntax.fn8000001D_ECX_x01 : SelectorSyntax.Statement .fn8000001D_ECX_x01 := ⟨rfl, rfl⟩
theorem SelectorSyntax.fn8000001D_ECX_x02 : SelectorSyntax.Statement .fn8000001D_ECX_x02 := ⟨rfl, rfl⟩
theorem SelectorSyntax.fn8000001D_ECX_x03 : SelectorSyntax.Statement .fn8000001D_ECX_x03 := ⟨rfl, rfl⟩
theorem SelectorSyntax.fn8000001D_ECX_x04 : SelectorSyntax.Statement .fn8000001D_ECX_x04 := ⟨rfl, rfl⟩
theorem SelectorSyntax.fn8000001D_EDX_x00 : SelectorSyntax.Statement .fn8000001D_EDX_x00 := ⟨rfl, rfl⟩
theorem SelectorSyntax.fn8000001D_EDX_x01 : SelectorSyntax.Statement .fn8000001D_EDX_x01 := ⟨rfl, rfl⟩
theorem SelectorSyntax.fn8000001D_EDX_x02 : SelectorSyntax.Statement .fn8000001D_EDX_x02 := ⟨rfl, rfl⟩
theorem SelectorSyntax.fn8000001D_EDX_x03 : SelectorSyntax.Statement .fn8000001D_EDX_x03 := ⟨rfl, rfl⟩
theorem SelectorSyntax.fn8000001D_EDX_x04 : SelectorSyntax.Statement .fn8000001D_EDX_x04 := ⟨rfl, rfl⟩
theorem SelectorSyntax.fn8000001E_EAX : SelectorSyntax.Statement .fn8000001E_EAX := ⟨rfl, rfl⟩
theorem SelectorSyntax.fn8000001E_EBX : SelectorSyntax.Statement .fn8000001E_EBX := ⟨rfl, rfl⟩
theorem SelectorSyntax.fn8000001E_ECX : SelectorSyntax.Statement .fn8000001E_ECX := ⟨rfl, rfl⟩
theorem SelectorSyntax.fn8000001F_EAX : SelectorSyntax.Statement .fn8000001F_EAX := ⟨rfl, rfl⟩
theorem SelectorSyntax.fn8000001F_EBX : SelectorSyntax.Statement .fn8000001F_EBX := ⟨rfl, rfl⟩
theorem SelectorSyntax.fn8000001F_ECX : SelectorSyntax.Statement .fn8000001F_ECX := ⟨rfl, rfl⟩
theorem SelectorSyntax.fn8000001F_EDX : SelectorSyntax.Statement .fn8000001F_EDX := ⟨rfl, rfl⟩

end Sys2Proof.Laws
end

