-- ==== Sys2Proof/Tests/Slice0.lean ====
section
/-! SUPPORT. Tests and witnesses. Expected values are those of spec/95_test_vectors.md (V, K, I, X, T, E and program vectors),
which are derived from the rules by hand, or bits written out from the tables of 30_encoding.md. A `witness_` theorem shows
a concrete state that meets the hypotheses of the statement it is named after. -/

namespace Sys2Proof.Tests

open Sys2Proof.Machine

/-! Helpers -/

/-- 48 bytes as the six name-string MSRs. -/
def nameOf (bs : List Nat) : Vector (Vector Byte 8) 6 :=
  Vector.ofFn fun n => Vector.ofFn fun k => BitVec.ofNat 8 (bs.getD (8 * n.val + k.val) 0)

/-- "Spec Reference Configuration REF". -/
def refName : List Nat :=
  [0x53, 0x70, 0x65, 0x63, 0x20, 0x52, 0x65, 0x66, 0x65, 0x72, 0x65, 0x6E, 0x63, 0x65, 0x20, 0x43, 0x6F, 0x6E, 0x66, 0x69, 0x67,
    0x75, 0x72, 0x61, 0x74, 0x69, 0x6F, 0x6E, 0x20, 0x52, 0x45, 0x46]

/-- The inputs of configuration REF. -/
def refInputs : Inputs := { Inputs.reset 0x03#8 with procNameString := nameOf refName }

/-- The inputs of configuration ALT. -/
def altInputs : Inputs where
  osxsave := true
  monMwaitDis := true
  apicEn := false
  xcr0Avx := true
  apicId := 0#8
  procNameString := nameOf [0x41, 0x4C, 0x54]
  nasid := 0x8000#32

/-- The executing thread of configuration ALT, (0, 0, 0). -/
def altThread : ThreadParams where
  present := true
  localApicId := 0#8
  coreId := 0#8
  nodeId := 0#8
  numSharingCacheIC := 0#12
  numSharingCacheL2 := 0#12
  numSharingCacheL3 := 0#12

/-- The product configuration of ALT. -/
def altParams : Params where
  baseModel := 0x8#4
  aes := false
  pclmulqdq := false
  xFeatureSupportedSizeMax := 0x340#32
  pkgType := 0x2#4
  l2DTlb2and4MAssoc := 0x3#4
  l2DTlb4KAssoc := 0x5#4
  l3Size := 0x0008#14
  l3Assoc := 0x8#4
  succor := true
  apicIdSize := 0#4
  nc := 0#8
  l3NumSets := 0xFFF#32
  threadsPerCore := 0#8
  nodesPerProcessor := 0#3
  minimumSevAsid := 0xF#32
  thread := (Vector.replicate 16 absentThread).set 0 altThread
  numSharingCacheDC := Vector.replicate 8 0#12
  pcWidth := .w32

/-- A state whose current thread `t` has these inputs, EAX = `fn` and ECX = `sub`, and `CPUID` at its pc. -/
def onThread (p : Params) (t : ThreadId) (inp : Inputs) (fn sub : Word) : State :=
  let s : State := { State.reset with params := p, current := t }
  let s := s.placeBytes [0x0F#8, 0xA2#8]
  s.setSelf { (s.self.writeGpr .eax fn).writeGpr .ecx sub with inputs := inp }

/-- Configuration REF, thread t1 = (0, 1, 1). -/
def ref (fn sub : Word) : State := onThread refParams ⟨0, 1, 1⟩ refInputs fn sub

/-- Configuration ALT, thread (0, 0, 0). -/
def alt (fn sub : Word) : State := onThread altParams ⟨0, 0, 0⟩ altInputs fn sub

/-- The registers of the current thread after one step. -/
def outs (s : State) (rs : List Gpr) : List Word :=
  match step s with
  | .next t => rs.map t.self.gpr
  | _ => []

/-- pc of the current thread after one step. -/
def pcAfter (s : State) : Option QWord :=
  match step s with
  | .next t => some t.self.pc
  | _ => none

/-- The refusal one step answers. -/
def refusal (s : State) : Option Refusal :=
  match step s with
  | .refused r => some r
  | _ => none

/-- The state after one step, as far as there is one. -/
def next (s : State) : State :=
  match step s with
  | .next t => t
  | _ => s

/-- Configuration REF with these bytes at pc. -/
def refBytes (bs : List Byte) : State := (ref 0#32 0#32).placeBytes bs

/-- Configuration REF with one input changed. -/
def refWith (ch : InputChange) (fn sub : Word) : State := onThread refParams ⟨0, 1, 1⟩ (refInputs.change ch) fn sub

/-! One vector per leaf, on REF and on ALT (section 3.1) -/

theorem test_v1_ref : outs (ref 0x00000000#32 0x00000000#32) [.eax, .ebx, .ecx, .edx] =
    [0x0000000D#32, 0x68747541#32, 0x444D4163#32, 0x69746E65#32] := by decide
theorem test_v1_alt : outs (alt 0x00000000#32 0x00000000#32) [.eax, .ebx, .ecx, .edx] =
    [0x0000000D#32, 0x68747541#32, 0x444D4163#32, 0x69746E65#32] := by decide
theorem test_v2_ref : outs (ref 0x00000001#32 0x00000000#32) [.eax, .ebx, .ecx, .edx] =
    [0x00800F12#32, 0x03100800#32, 0x76D8320B#32, 0x178BFBFF#32] := by decide
theorem test_v2_alt : outs (alt 0x00000001#32 0x00000000#32) [.eax, .ebx, .ecx, .edx] =
    [0x00800F82#32, 0x00010800#32, 0x7CD83201#32, 0x078BF9FF#32] := by decide
theorem test_v3_ref : outs (ref 0x00000005#32 0x00000000#32) [.eax, .ebx, .ecx, .edx] =
    [0x00000040#32, 0x00000040#32, 0x00000003#32, 0x00000011#32] := by decide
theorem test_v3_alt : outs (alt 0x00000005#32 0x00000000#32) [.eax, .ebx, .ecx, .edx] =
    [0x00000040#32, 0x00000040#32, 0x00000003#32, 0x00000011#32] := by decide
theorem test_v4_ref : outs (ref 0x00000006#32 0x00000000#32) [.eax, .ebx, .ecx, .edx] =
    [0x00000004#32, 0x00000000#32, 0x00000001#32, 0x00000000#32] := by decide
theorem test_v4_alt : outs (alt 0x00000006#32 0x00000000#32) [.eax, .ebx, .ecx, .edx] =
    [0x00000004#32, 0x00000000#32, 0x00000001#32, 0x00000000#32] := by decide
theorem test_v5_ref : outs (ref 0x00000007#32 0x00000000#32) [.eax, .ebx, .ecx, .edx] =
    [0x00000000#32, 0x209C01A9#32, 0x00000000#32, 0x00000000#32] := by decide
theorem test_v5_alt : outs (alt 0x00000007#32 0x00000000#32) [.eax, .ebx, .ecx, .edx] =
    [0x00000000#32, 0x209C01A9#32, 0x00000000#32, 0x00000000#32] := by decide
theorem test_v6_ref : outs (ref 0x0000000B#32 0x00000000#32) [.eax, .ebx, .ecx, .edx] =
    [0x00000000#32, 0x00000000#32, 0x00000000#32, 0x00000000#32] := by decide
theorem test_v6_alt : outs (alt 0x0000000B#32 0x00000000#32) [.eax, .ebx, .ecx, .edx] =
    [0x00000000#32, 0x00000000#32, 0x00000000#32, 0x00000000#32] := by decide
theorem test_v7_ref : outs (ref 0x0000000D#32 0x00000000#32) [.eax, .ebx, .ecx, .edx] =
    [0x00000007#32, 0x00000240#32, 0x00000340#32, 0x00000000#32] := by decide
theorem test_v7_alt : outs (alt 0x0000000D#32 0x00000000#32) [.eax, .ebx, .ecx, .edx] =
    [0x00000007#32, 0x00000340#32, 0x00000340#32, 0x00000000#32] := by decide
theorem test_v8_ref : outs (ref 0x0000000D#32 0x00000001#32) [.eax, .ebx, .ecx, .edx] =
    [0x0000000F#32, 0x00000240#32, 0x00000000#32, 0x00000000#32] := by decide
theorem test_v8_alt : outs (alt 0x0000000D#32 0x00000001#32) [.eax, .ebx, .ecx, .edx] =
    [0x0000000F#32, 0x00000340#32, 0x00000000#32, 0x00000000#32] := by decide
theorem test_v9_ref : outs (ref 0x0000000D#32 0x00000002#32) [.eax, .ebx, .ecx, .edx] =
    [0x00000100#32, 0x00000240#32, 0x00000000#32, 0x00000000#32] := by decide
theorem test_v9_alt : outs (alt 0x0000000D#32 0x00000002#32) [.eax, .ebx, .ecx, .edx] =
    [0x00000100#32, 0x00000240#32, 0x00000000#32, 0x00000000#32] := by decide
theorem test_v10_ref : outs (ref 0x80000000#32 0x00000000#32) [.eax, .ebx, .ecx, .edx] =
    [0x8000001F#32, 0x68747541#32, 0x444D4163#32, 0x69746E65#32] := by decide
theorem test_v10_alt : outs (alt 0x80000000#32 0x00000000#32) [.eax, .ebx, .ecx, .edx] =
    [0x8000001F#32, 0x68747541#32, 0x444D4163#32, 0x69746E65#32] := by decide
theorem test_v11_ref : outs (ref 0x80000001#32 0x00000000#32) [.eax, .ebx, .ecx, .edx] =
    [0x00800F12#32, 0x20000000#32, 0x34C233FF#32, 0x2FD3FBFF#32] := by decide
theorem test_v11_alt : outs (alt 0x80000001#32 0x00000000#32) [.eax, .ebx, .ecx, .edx] =
    [0x00800F82#32, 0x20000000#32, 0x14C233FD#32, 0x2FD3F9FF#32] := by decide
theorem test_v12_ref : outs (ref 0x80000002#32 0x00000000#32) [.eax, .ebx, .ecx, .edx] =
    [0x63657053#32, 0x66655220#32, 0x6E657265#32, 0x43206563#32] := by decide
theorem test_v12_alt : outs (alt 0x80000002#32 0x00000000#32) [.eax, .ebx, .ecx, .edx] =
    [0x00544C41#32, 0x00000000#32, 0x00000000#32, 0x00000000#32] := by decide
theorem test_v13_ref : outs (ref 0x80000003#32 0x00000000#32) [.eax, .ebx, .ecx, .edx] =
    [0x69666E6F#32, 0x61727567#32, 0x6E6F6974#32, 0x46455220#32] := by decide
theorem test_v13_alt : outs (alt 0x80000003#32 0x00000000#32) [.eax, .ebx, .ecx, .edx] =
    [0x00000000#32, 0x00000000#32, 0x00000000#32, 0x00000000#32] := by decide
theorem test_v14_ref : outs (ref 0x80000004#32 0x00000000#32) [.eax, .ebx, .ecx, .edx] =
    [0x00000000#32, 0x00000000#32, 0x00000000#32, 0x00000000#32] := by decide
theorem test_v14_alt : outs (alt 0x80000004#32 0x00000000#32) [.eax, .ebx, .ecx, .edx] =
    [0x00000000#32, 0x00000000#32, 0x00000000#32, 0x00000000#32] := by decide
theorem test_v15_ref : outs (ref 0x80000005#32 0x00000000#32) [.eax, .ebx, .ecx, .edx] =
    [0xFF40FF40#32, 0xFF40FF40#32, 0x20080140#32, 0x40040140#32] := by decide
theorem test_v15_alt : outs (alt 0x80000005#32 0x00000000#32) [.eax, .ebx, .ecx, .edx] =
    [0xFF40FF40#32, 0xFF40FF40#32, 0x20080140#32, 0x40040140#32] := by decide
theorem test_v16_ref : outs (ref 0x80000006#32 0x00000000#32) [.eax, .ebx, .ecx, .edx] =
    [0x26006400#32, 0x66006400#32, 0x02006140#32, 0x00808140#32] := by decide
theorem test_v16_alt : outs (alt 0x80000006#32 0x00000000#32) [.eax, .ebx, .ecx, .edx] =
    [0x36006400#32, 0x56006400#32, 0x02006140#32, 0x00208140#32] := by decide
theorem test_v17_ref : outs (ref 0x80000007#32 0x00000000#32) [.eax, .ebx, .ecx, .edx] =
    [0x00000000#32, 0x00000009#32, 0x00000000#32, 0x00006789#32] := by decide
theorem test_v17_alt : outs (alt 0x80000007#32 0x00000000#32) [.eax, .ebx, .ecx, .edx] =
    [0x00000000#32, 0x0000000B#32, 0x00000000#32, 0x00006789#32] := by decide
theorem test_v18_ref : outs (ref 0x80000008#32 0x00000000#32) [.eax, .ebx, .ecx] =
    [0x00003030#32, 0x00000007#32, 0x0000400F#32] := by decide
theorem test_v18_alt : outs (alt 0x80000008#32 0x00000000#32) [.eax, .ebx, .ecx] =
    [0x00003030#32, 0x00000007#32, 0x00000000#32] := by decide
theorem test_v19_ref : outs (ref 0x8000000A#32 0x00000000#32) [.eax, .ebx, .edx] =
    [0x00000001#32, 0x00008000#32, 0x0001B4FF#32] := by decide
theorem test_v19_alt : outs (alt 0x8000000A#32 0x00000000#32) [.eax, .ebx, .edx] =
    [0x00000001#32, 0x00008000#32, 0x0001B4FF#32] := by decide
theorem test_v20_ref : outs (ref 0x80000019#32 0x00000000#32) [.eax, .ebx] =
    [0xF040F040#32, 0x00000000#32] := by decide
theorem test_v20_alt : outs (alt 0x80000019#32 0x00000000#32) [.eax, .ebx] =
    [0xF040F040#32, 0x00000000#32] := by decide
theorem test_v21_ref : outs (ref 0x8000001A#32 0x00000000#32) [.eax] =
    [0x00000003#32] := by decide
theorem test_v21_alt : outs (alt 0x8000001A#32 0x00000000#32) [.eax] =
    [0x00000003#32] := by decide
theorem test_v22_ref : outs (ref 0x8000001B#32 0x00000000#32) [.eax] =
    [0x000003FF#32] := by decide
theorem test_v22_alt : outs (alt 0x8000001B#32 0x00000000#32) [.eax] =
    [0x000003FF#32] := by decide
theorem test_v23_ref : outs (ref 0x8000001D#32 0x00000000#32) [.eax, .ebx, .ecx, .edx] =
    [0x00004121#32, 0x01C0003F#32, 0x0000003F#32, 0x00000000#32] := by decide
theorem test_v23_alt : outs (alt 0x8000001D#32 0x00000000#32) [.eax, .ebx, .ecx, .edx] =
    [0x00000121#32, 0x01C0003F#32, 0x0000003F#32, 0x00000000#32] := by decide
theorem test_v24_ref : outs (ref 0x8000001D#32 0x00000001#32) [.eax, .ebx, .ecx, .edx] =
    [0x00004122#32, 0x00C0003F#32, 0x000000FF#32, 0x00000000#32] := by decide
theorem test_v24_alt : outs (alt 0x8000001D#32 0x00000001#32) [.eax, .ebx, .ecx, .edx] =
    [0x00000122#32, 0x00C0003F#32, 0x000000FF#32, 0x00000000#32] := by decide
theorem test_v25_ref : outs (ref 0x8000001D#32 0x00000002#32) [.eax, .ebx, .ecx, .edx] =
    [0x00004143#32, 0x01C0003F#32, 0x000003FF#32, 0x00000002#32] := by decide
theorem test_v25_alt : outs (alt 0x8000001D#32 0x00000002#32) [.eax, .ebx, .ecx, .edx] =
    [0x00000143#32, 0x01C0003F#32, 0x000003FF#32, 0x00000002#32] := by decide
theorem test_v26_ref : outs (ref 0x8000001D#32 0x00000003#32) [.eax, .ebx, .ecx, .edx] =
    [0x0001C163#32, 0x03C0003F#32, 0x00001FFF#32, 0x00000001#32] := by decide
theorem test_v26_alt : outs (alt 0x8000001D#32 0x00000003#32) [.eax, .ebx, .ecx, .edx] =
    [0x00000163#32, 0x03C0003F#32, 0x00000FFF#32, 0x00000001#32] := by decide
theorem test_v27_ref : outs (ref 0x8000001D#32 0x00000004#32) [.eax, .ebx, .ecx, .edx] =
    [0x00000000#32, 0x00000000#32, 0x00000000#32, 0x00000000#32] := by decide
theorem test_v27_alt : outs (alt 0x8000001D#32 0x00000004#32) [.eax, .ebx, .ecx, .edx] =
    [0x00000000#32, 0x00000000#32, 0x00000000#32, 0x00000000#32] := by decide
theorem test_v28_ref : outs (ref 0x8000001E#32 0x00000000#32) [.eax, .ebx, .ecx] =
    [0x00000003#32, 0x00000101#32, 0x00000000#32] := by decide
theorem test_v28_alt : outs (alt 0x8000001E#32 0x00000000#32) [.eax, .ebx, .ecx] =
    [0x00000000#32, 0x00000000#32, 0x00000000#32] := by decide
theorem test_v29_ref : outs (ref 0x8000001F#32 0x00000000#32) [.eax, .ebx, .ecx, .edx] =
    [0x0000000F#32, 0x0000016F#32, 0x0000000F#32, 0x00000001#32] := by decide
theorem test_v29_alt : outs (alt 0x8000001F#32 0x00000000#32) [.eax, .ebx, .ecx, .edx] =
    [0x0000000F#32, 0x0000016F#32, 0x0000000F#32, 0x0000000F#32] := by decide

/-! Corner cases of the instruction (section 3.2) -/

theorem test_k1 : outs (ref 0#32 0xFFFFFFFF#32) [.eax, .ebx, .ecx, .edx] =
    [0x0000000D#32, 0x68747541#32, 0x444D4163#32, 0x69746E65#32] := by decide
theorem test_k2 : outs (ref 0x8000001F#32 0x12345678#32) [.eax, .ebx, .ecx, .edx] =
    [0x0000000F#32, 0x0000016F#32, 0x0000000F#32, 0x00000001#32] := by decide
theorem test_k3 : outs (ref 0xB#32 1#32) [.eax, .ebx, .ecx, .edx] = [0#32, 0#32, 0#32, 0#32] := by decide

/-- Four outputs that are all the free value, under key 0, of thread t1. -/
def allUnlisted (fn sub : Word) : List QWord :=
  [.eax, .ebx, .ecx, .edx].map fun r => (Config.unlisted 0 ⟨0, 1, 1⟩ fn sub r).setWidth 64

/-- The full registers after one step. -/
def fullOuts (s : State) (rs : List Gpr) : List QWord := rs.map (next s).self.fullGpr

theorem test_k4 : fullOuts (ref 0xD#32 0x100#32) [.eax, .ebx, .ecx, .edx] = allUnlisted 0xD#32 0x100#32 := rfl
theorem test_k5 : fullOuts (ref 0x8001#32 0#32) [.eax, .ebx, .ecx, .edx] = allUnlisted 0x8001#32 0#32 := rfl
theorem test_k6 : fullOuts (ref 0x2#32 0#32) [.eax, .ebx, .ecx, .edx] = allUnlisted 0x2#32 0#32 := rfl
theorem test_k7 : fullOuts (ref 0xE#32 0#32) [.eax, .ebx, .ecx, .edx] = allUnlisted 0xE#32 0#32 := rfl
theorem test_k8 : fullOuts (ref 0x80000020#32 0#32) [.eax, .ebx, .ecx, .edx] = allUnlisted 0x80000020#32 0#32 := rfl
theorem test_k9 : fullOuts (ref 0xFFFFFFFF#32 0xFFFFFFFF#32) [.eax, .ebx, .ecx, .edx] = allUnlisted 0xFFFFFFFF#32 0xFFFFFFFF#32 := rfl
theorem test_k10 : fullOuts (ref 0x7#32 1#32) [.eax, .ebx, .ecx, .edx] = allUnlisted 0x7#32 1#32 := rfl
theorem test_k11 : fullOuts (ref 0xD#32 3#32) [.eax, .ebx, .ecx, .edx] = allUnlisted 0xD#32 3#32 := rfl
theorem test_k12 : fullOuts (ref 0x8000001D#32 5#32) [.eax, .ebx, .ecx, .edx] = allUnlisted 0x8000001D#32 5#32 := rfl
theorem test_k13 : fullOuts (ref 0x8000001A#32 0#32) [.ebx, .ecx, .edx] = (allUnlisted 0x8000001A#32 0#32).tail := rfl

/-- `s` with these four full registers. -/
def withFull (s : State) (a b c d : QWord) : State := s.setSelf { s.self with rax := a, rbx := b, rcx := c, rdx := d }

theorem test_k14 : outs (withFull (ref 0#32 0#32) 6#64 0xFFFFFFFF#64 0#64 0xFFFFFFFF#64) [.eax, .ebx, .ecx, .edx] =
    [4#32, 0#32, 1#32, 0#32] := by decide
theorem test_k16 :
    let t := next (withFull (ref 0#32 0#32) 0xFFFFFFFF00000000#64 0xFFFFFFFFFFFFFFFF#64 0xDEADBEEF00000000#64 0xFFFFFFFFFFFFFFFF#64)
    t.self.rax = 0xD#64 ∧ t.self.rbx = 0x68747541#64 ∧ t.self.rcx = 0x444D4163#64 ∧ t.self.rdx = 0x69746E65#64 := by decide

/-- `ref 0 0` or `alt 0 0` with another pc, and the bytes of `CPUID` there. -/
def atPc (s : State) (pc : QWord) : State := (s.setSelf { s.self with pc := pc }).placeBytes [0x0F#8, 0xA2#8]

theorem test_k17_wrap64 : pcAfter (atPc (ref 0#32 0#32) 0xFFFFFFFFFFFFFFFF#64) = some 1#64 := by decide
theorem test_k17_wrap32 : pcAfter (atPc (alt 0#32 0#32) 0xFFFFFFFF#64) = some 1#64 := by decide
/-- R351: an execution whose four outputs are listed changes no field of the thread that the spec does not give. -/
theorem test_listed_keeps_key : (next (ref 0#32 0#32)).self.unlistedKey = (ref 0#32 0#32).self.unlistedKey := by decide
theorem test_unlisted_renews_key : (next (ref 0x2#32 0#32)).self.unlistedKey = Config.nextUnlisted 0 := rfl
theorem test_k18 : (next (ref 0#32 0#32)).self.rflags = 0x2#64 := by decide

/-! Fields that follow an input (section 3.3) -/

theorem test_i1 : outs (refWith (.osxsave true) 1#32 0#32) [.ecx] = [0x7ED8320B#32] := by decide
theorem test_i2 : outs (refWith (.monMwaitDis true) 1#32 0#32) [.ecx] = [0x76D83203#32] := by decide
theorem test_i3 : outs (refWith (.monMwaitDis true) 0x80000001#32 0#32) [.ecx] = [0x14C233FF#32] := by decide
theorem test_i4 : outs (refWith (.apicEn false) 1#32 0#32) [.edx] = [0x178BF9FF#32] := by decide
theorem test_i5 : outs (refWith (.apicEn false) 0x80000001#32 0#32) [.edx] = [0x2FD3F9FF#32] := by decide
theorem test_i6 : outs (refWith (.apicEn false) 0x8000001E#32 0#32) [.eax] = [0#32] := by decide
theorem test_i7 : outs (refWith (.apicId 0x7F#8) 0x8000001E#32 0#32) [.eax] = [0x7F#32] := by decide
theorem test_i7_local : outs (refWith (.apicId 0x7F#8) 1#32 0#32) [.ebx] = [0x03100800#32] := by decide
theorem test_i8 : outs (refWith (.xcr0Avx true) 0xD#32 0#32) [.ebx] = [0x340#32] := by decide
theorem test_i9 : outs (refWith (.xcr0Avx true) 0xD#32 1#32) [.ebx] = [0x340#32] := by decide
theorem test_i10 : outs (refWith (.nasid 0x10#32) 0x8000000A#32 0#32) [.ebx] = [0x10#32] := by decide
theorem test_i11 : outs (refWith (.procNameByte 0 0 0x73#8) 0x80000002#32 0#32) [.eax] = [0x63657073#32] := by decide

/-! Parameter extremes (section 3.4) and the well-formedness of a configuration -/

/-- Configuration REF with another NC. -/
def refNc (nc : BitVec 8) (fn : Word) : State := onThread { refParams with nc := nc } ⟨0, 1, 1⟩ refInputs fn 0#32

theorem test_x1 : outs (refNc 0#8 1#32) [.ebx, .edx] = [0x03010800#32, 0x078BFBFF#32] := by decide
theorem test_x2 : outs (refNc 0#8 0x80000001#32) [.ecx] = [0x34C233FD#32] := by decide
theorem test_x3 : outs (refNc 0#8 0x80000008#32) [.ecx] = [0x00004000#32] := by decide
theorem test_x4 : outs (refNc 0xFE#8 1#32) [.ebx, .edx] = [0x03FF0800#32, 0x178BFBFF#32] := by decide
theorem test_x5 : outs (refNc 0xFE#8 0x80000008#32) [.ecx] = [0x000040FE#32] := by decide
theorem test_x6 : refusal (refNc 0xFF#8 1#32) = some .reservedConfiguration := by decide
theorem test_x7 : refusal (onThread { refParams with pkgType := 0#4 } ⟨0, 1, 1⟩ refInputs 1#32 0#32) =
    some .reservedConfiguration := by decide

theorem test_wellFormed_ref : refParams.wellFormed = true := by decide
theorem test_wellFormed_alt : altParams.wellFormed = true := by decide
theorem test_illFormed_nc : ({ refParams with nc := 0xFF#8 } : Params).wellFormed = false := by decide
theorem test_illFormed_pkgType : ({ refParams with pkgType := 0x3#4 } : Params).wellFormed = false := by decide
theorem test_illFormed_xFeatureSize : ({ refParams with xFeatureSupportedSizeMax := 0#32 } : Params).wellFormed = false := by decide
theorem test_illFormed_l2DTlb2and4MAssoc : ({ refParams with l2DTlb2and4MAssoc := 0x4#4 } : Params).wellFormed = false := by decide
theorem test_illFormed_l2DTlb4KAssoc : ({ refParams with l2DTlb4KAssoc := 0x4#4 } : Params).wellFormed = false := by decide
theorem test_illFormed_l3Assoc : ({ refParams with l3Assoc := 0x9#4 } : Params).wellFormed = false := by decide
theorem test_illFormed_l3NumSets : ({ refParams with l3NumSets := 0x2000#32 } : Params).wellFormed = false := by decide
theorem test_illFormed_nodes : ({ refParams with nodesPerProcessor := 2#3 } : Params).wellFormed = false := by decide
theorem test_illFormed_minimumSevAsid : ({ refParams with minimumSevAsid := 0x10#32 } : Params).wellFormed = false := by decide
theorem test_illFormed_threads : ({ refParams with thread := Vector.replicate 16 absentThread } : Params).wellFormed = false := by decide

/-! Per-thread instances (section 3.5) -/

/-- Configuration REF, thread t0 = (0, 0, 0). -/
def ref0 (fn : Word) : State := onThread refParams ⟨0, 0, 0⟩ { refInputs with apicId := 0#8 } fn 0#32

theorem test_t1 : outs (ref0 1#32) [.ebx] = [0x00100800#32] := by decide
theorem test_t2 : outs (ref0 0x8000001E#32) [.eax] = [0#32] := by decide
theorem test_t3 : outs (ref0 0x8000001E#32) [.ebx] = [0x100#32] := by decide
theorem test_t4 : outs (ref0 0#32) [.eax, .ebx, .ecx, .edx] =
    [0x0000000D#32, 0x68747541#32, 0x444D4163#32, 0x69746E65#32] := by decide
theorem test_absent_thread : refusal (onThread refParams ⟨1, 0, 0⟩ refInputs 0#32 0#32) = some .noSuchThread := by decide

/-! Encoding vectors (section 3.6), and the bits of R80 written out -/

theorem test_e1 : decode [0x0F#8, 0xA2#8] = .ok (.cpuid, []) := by decide
theorem test_e1_bits : decode [0b00001111#8, 0b10100010#8] = .ok (.cpuid, []) := by decide
theorem test_e2 : decode [0x0F#8, 0xA2#8, 0x0F#8, 0xA2#8] = .ok (.cpuid, [0x0F#8, 0xA2#8]) := by decide
theorem test_e3 : refusal (refBytes [0xA2#8, 0x0F#8]) = some .notAnInstruction := by decide
theorem test_e4 : (refusal (refBytes [0x66#8, 0x0F#8, 0xA2#8]), refusal (refBytes [0xF3#8, 0x0F#8, 0xA2#8]),
    refusal (refBytes [0x48#8, 0x0F#8, 0xA2#8]), refusal (refBytes [0xF0#8, 0x0F#8, 0xA2#8])) =
    (some .prefixedInstruction, some .prefixedInstruction, some .prefixedInstruction, some .prefixedInstruction) := by decide
theorem test_e5 : refusal ({ ref 0#32 0#32 with mem := [(0, 0x0F#8)] }) = some .truncatedInstruction := by decide
theorem test_e6 : refusal ({ ref 0#32 0#32 with mem := [(0, 0x90#8)] }) = some .notAnInstruction := by decide
theorem test_end_of_program : refusal State.reset = some .endOfProgram := by decide
theorem test_table_word_cpuid : decodeTableWord 16 0x0FA2 = some .cpuid := by decide

/-! Every register row, at the point its row of the opcode table names: output register, ECX_in (FFFF_FFFFh where the row
ignores it), EAX_in -/

theorem test_decode_r130 :
    [decodeTableWord 72 0x00_FFFFFFFF_00000000,
      decodeTableWord 72 0x01_FFFFFFFF_00000000,
      decodeTableWord 72 0x02_FFFFFFFF_00000000,
      decodeTableWord 72 0x03_FFFFFFFF_00000000] =
    [some .fn00000000_EAX, some .fn00000000_EBX, some .fn00000000_ECX, some .fn00000000_EDX] := by decide
theorem test_decode_r135 :
    [decodeTableWord 72 0x00_FFFFFFFF_00000001,
      decodeTableWord 72 0x01_FFFFFFFF_00000001,
      decodeTableWord 72 0x02_FFFFFFFF_00000001,
      decodeTableWord 72 0x03_FFFFFFFF_00000001] =
    [some .fn00000001_EAX, some .fn00000001_EBX, some .fn00000001_ECX, some .fn00000001_EDX] := by decide
theorem test_decode_r140 :
    [decodeTableWord 72 0x00_FFFFFFFF_00000005,
      decodeTableWord 72 0x01_FFFFFFFF_00000005,
      decodeTableWord 72 0x02_FFFFFFFF_00000005,
      decodeTableWord 72 0x03_FFFFFFFF_00000005] =
    [some .fn00000005_EAX, some .fn00000005_EBX, some .fn00000005_ECX, some .fn00000005_EDX] := by decide
theorem test_decode_r145 :
    [decodeTableWord 72 0x00_FFFFFFFF_00000006,
      decodeTableWord 72 0x01_FFFFFFFF_00000006,
      decodeTableWord 72 0x02_FFFFFFFF_00000006,
      decodeTableWord 72 0x03_FFFFFFFF_00000006] =
    [some .fn00000006_EAX, some .fn00000006_EBX, some .fn00000006_ECX, some .fn00000006_EDX] := by decide
theorem test_decode_r150 :
    [decodeTableWord 72 0x00_00000000_00000007,
      decodeTableWord 72 0x01_00000000_00000007,
      decodeTableWord 72 0x02_00000000_00000007,
      decodeTableWord 72 0x03_00000000_00000007] =
    [some .fn00000007_EAX_x00, some .fn00000007_EBX_x00, some .fn00000007_ECX_x00, some .fn00000007_EDX_x00] := by decide
theorem test_decode_r155 :
    [decodeTableWord 72 0x00_FFFFFFFF_0000000B,
      decodeTableWord 72 0x01_FFFFFFFF_0000000B,
      decodeTableWord 72 0x02_FFFFFFFF_0000000B,
      decodeTableWord 72 0x03_FFFFFFFF_0000000B] =
    [some .fn0000000B_EAX, some .fn0000000B_EBX, some .fn0000000B_ECX, some .fn0000000B_EDX] := by decide
theorem test_decode_r160 :
    [decodeTableWord 72 0x00_00000000_0000000D,
      decodeTableWord 72 0x01_00000000_0000000D,
      decodeTableWord 72 0x02_00000000_0000000D,
      decodeTableWord 72 0x03_00000000_0000000D] =
    [some .fn0000000D_EAX_x00, some .fn0000000D_EBX_x00, some .fn0000000D_ECX_x00, some .fn0000000D_EDX_x00] := by decide
theorem test_decode_r165 :
    [decodeTableWord 72 0x00_00000001_0000000D,
      decodeTableWord 72 0x01_00000001_0000000D,
      decodeTableWord 72 0x02_00000001_0000000D,
      decodeTableWord 72 0x03_00000001_0000000D] =
    [some .fn0000000D_EAX_x01, some .fn0000000D_EBX_x01, some .fn0000000D_ECX_x01, some .fn0000000D_EDX_x01] := by decide
theorem test_decode_r170 :
    [decodeTableWord 72 0x00_00000002_0000000D,
      decodeTableWord 72 0x01_00000002_0000000D,
      decodeTableWord 72 0x02_00000002_0000000D,
      decodeTableWord 72 0x03_00000002_0000000D] =
    [some .fn0000000D_EAX_x02, some .fn0000000D_EBX_x02, some .fn0000000D_ECX_x02, some .fn0000000D_EDX_x02] := by decide
theorem test_decode_r200 :
    [decodeTableWord 72 0x00_FFFFFFFF_80000000,
      decodeTableWord 72 0x01_FFFFFFFF_80000000,
      decodeTableWord 72 0x02_FFFFFFFF_80000000,
      decodeTableWord 72 0x03_FFFFFFFF_80000000] =
    [some .fn80000000_EAX, some .fn80000000_EBX, some .fn80000000_ECX, some .fn80000000_EDX] := by decide
theorem test_decode_r205 :
    [decodeTableWord 72 0x00_FFFFFFFF_80000001,
      decodeTableWord 72 0x01_FFFFFFFF_80000001,
      decodeTableWord 72 0x02_FFFFFFFF_80000001,
      decodeTableWord 72 0x03_FFFFFFFF_80000001] =
    [some .fn80000001_EAX, some .fn80000001_EBX, some .fn80000001_ECX, some .fn80000001_EDX] := by decide
theorem test_decode_r210 :
    [decodeTableWord 72 0x00_FFFFFFFF_80000002,
      decodeTableWord 72 0x01_FFFFFFFF_80000002,
      decodeTableWord 72 0x02_FFFFFFFF_80000002,
      decodeTableWord 72 0x03_FFFFFFFF_80000002] =
    [some .fn80000002_EAX, some .fn80000002_EBX, some .fn80000002_ECX, some .fn80000002_EDX] := by decide
theorem test_decode_r215 :
    [decodeTableWord 72 0x00_FFFFFFFF_80000003,
      decodeTableWord 72 0x01_FFFFFFFF_80000003,
      decodeTableWord 72 0x02_FFFFFFFF_80000003,
      decodeTableWord 72 0x03_FFFFFFFF_80000003] =
    [some .fn80000003_EAX, some .fn80000003_EBX, some .fn80000003_ECX, some .fn80000003_EDX] := by decide
theorem test_decode_r220 :
    [decodeTableWord 72 0x00_FFFFFFFF_80000004,
      decodeTableWord 72 0x01_FFFFFFFF_80000004,
      decodeTableWord 72 0x02_FFFFFFFF_80000004,
      decodeTableWord 72 0x03_FFFFFFFF_80000004] =
    [some .fn80000004_EAX, some .fn80000004_EBX, some .fn80000004_ECX, some .fn80000004_EDX] := by decide
theorem test_decode_r240 :
    [decodeTableWord 72 0x00_FFFFFFFF_80000005,
      decodeTableWord 72 0x01_FFFFFFFF_80000005,
      decodeTableWord 72 0x02_FFFFFFFF_80000005,
      decodeTableWord 72 0x03_FFFFFFFF_80000005] =
    [some .fn80000005_EAX, some .fn80000005_EBX, some .fn80000005_ECX, some .fn80000005_EDX] := by decide
theorem test_decode_r245 :
    [decodeTableWord 72 0x00_FFFFFFFF_80000006,
      decodeTableWord 72 0x01_FFFFFFFF_80000006,
      decodeTableWord 72 0x02_FFFFFFFF_80000006,
      decodeTableWord 72 0x03_FFFFFFFF_80000006] =
    [some .fn80000006_EAX, some .fn80000006_EBX, some .fn80000006_ECX, some .fn80000006_EDX] := by decide
theorem test_decode_r250 :
    [decodeTableWord 72 0x00_FFFFFFFF_80000007,
      decodeTableWord 72 0x01_FFFFFFFF_80000007,
      decodeTableWord 72 0x02_FFFFFFFF_80000007,
      decodeTableWord 72 0x03_FFFFFFFF_80000007] =
    [some .fn80000007_EAX, some .fn80000007_EBX, some .fn80000007_ECX, some .fn80000007_EDX] := by decide
theorem test_decode_r255 :
    [decodeTableWord 72 0x00_FFFFFFFF_80000008,
      decodeTableWord 72 0x01_FFFFFFFF_80000008,
      decodeTableWord 72 0x02_FFFFFFFF_80000008] =
    [some .fn80000008_EAX, some .fn80000008_EBX, some .fn80000008_ECX] := by decide
theorem test_decode_r259 :
    [decodeTableWord 72 0x00_FFFFFFFF_8000000A,
      decodeTableWord 72 0x01_FFFFFFFF_8000000A,
      decodeTableWord 72 0x03_FFFFFFFF_8000000A] =
    [some .fn8000000A_EAX, some .fn8000000A_EBX, some .fn8000000A_EDX] := by decide
theorem test_decode_r280 :
    [decodeTableWord 72 0x00_FFFFFFFF_80000019,
      decodeTableWord 72 0x01_FFFFFFFF_80000019] =
    [some .fn80000019_EAX, some .fn80000019_EBX] := by decide
theorem test_decode_r283 :
    [decodeTableWord 72 0x00_FFFFFFFF_8000001A] =
    [some .fn8000001A_EAX] := by decide
theorem test_decode_r285 :
    [decodeTableWord 72 0x00_FFFFFFFF_8000001B] =
    [some .fn8000001B_EAX] := by decide
theorem test_decode_r287 :
    [decodeTableWord 72 0x00_00000000_8000001D,
      decodeTableWord 72 0x01_00000000_8000001D,
      decodeTableWord 72 0x02_00000000_8000001D,
      decodeTableWord 72 0x03_00000000_8000001D] =
    [some .fn8000001D_EAX_x00, some .fn8000001D_EBX_x00, some .fn8000001D_ECX_x00, some .fn8000001D_EDX_x00] := by decide
theorem test_decode_r288 :
    [decodeTableWord 72 0x00_00000001_8000001D,
      decodeTableWord 72 0x01_00000001_8000001D,
      decodeTableWord 72 0x02_00000001_8000001D,
      decodeTableWord 72 0x03_00000001_8000001D] =
    [some .fn8000001D_EAX_x01, some .fn8000001D_EBX_x01, some .fn8000001D_ECX_x01, some .fn8000001D_EDX_x01] := by decide
theorem test_decode_r289 :
    [decodeTableWord 72 0x00_00000002_8000001D,
      decodeTableWord 72 0x01_00000002_8000001D,
      decodeTableWord 72 0x02_00000002_8000001D,
      decodeTableWord 72 0x03_00000002_8000001D] =
    [some .fn8000001D_EAX_x02, some .fn8000001D_EBX_x02, some .fn8000001D_ECX_x02, some .fn8000001D_EDX_x02] := by decide
theorem test_decode_r290 :
    [decodeTableWord 72 0x00_00000003_8000001D,
      decodeTableWord 72 0x01_00000003_8000001D,
      decodeTableWord 72 0x02_00000003_8000001D,
      decodeTableWord 72 0x03_00000003_8000001D] =
    [some .fn8000001D_EAX_x03, some .fn8000001D_EBX_x03, some .fn8000001D_ECX_x03, some .fn8000001D_EDX_x03] := by decide
theorem test_decode_r291 :
    [decodeTableWord 72 0x00_00000004_8000001D,
      decodeTableWord 72 0x01_00000004_8000001D,
      decodeTableWord 72 0x02_00000004_8000001D,
      decodeTableWord 72 0x03_00000004_8000001D] =
    [some .fn8000001D_EAX_x04, some .fn8000001D_EBX_x04, some .fn8000001D_ECX_x04, some .fn8000001D_EDX_x04] := by decide
theorem test_decode_r312 :
    [decodeTableWord 72 0x00_FFFFFFFF_8000001E,
      decodeTableWord 72 0x01_FFFFFFFF_8000001E,
      decodeTableWord 72 0x02_FFFFFFFF_8000001E] =
    [some .fn8000001E_EAX, some .fn8000001E_EBX, some .fn8000001E_ECX] := by decide
theorem test_decode_r316 :
    [decodeTableWord 72 0x00_FFFFFFFF_8000001F,
      decodeTableWord 72 0x01_FFFFFFFF_8000001F,
      decodeTableWord 72 0x02_FFFFFFFF_8000001F,
      decodeTableWord 72 0x03_FFFFFFFF_8000001F] =
    [some .fn8000001F_EAX, some .fn8000001F_EBX, some .fn8000001F_ECX, some .fn8000001F_EDX] := by decide

/-! The word the host places is what the next step runs -/

theorem test_withFetchWord_cpuid : outs (State.reset.withFetchWord 16 0x0FA2) [.eax, .ebx] = [0xD#32, 0x68747541#32] := by decide
theorem test_withFetchWord_row : outs (State.reset.withFetchWord 32 0x80000001) [.eax] = [0x00800F12#32] := by decide
theorem test_withFetchWord_subleaf : outs (State.reset.withFetchWord 72 0x01_00000003_8000001D) [.ebx] = [0x03C0003F#32] := by decide

/-! Overrides: a register row with a replacement, and the registers its cleared features report (R109, R110) -/

/-- `s` with the override of CPUID_Fn80000001_ECX written. -/
def withExtEcx (s : State) (w : Word) : State :=
  s.setSelf { s.self with overrides := { s.self.overrides with featureExtIdEcx := some w } }

theorem test_override : outs (withExtEcx (ref 0x80000001#32 0#32) 0x12345678#32) [.ecx] = [0x12345678#32] := by decide
theorem test_svm_cleared : fullOuts (withExtEcx (ref 0x8000000A#32 0#32) 0x34C233FB#32) [.eax, .ebx, .ecx, .edx] =
    allUnlisted 0x8000000A#32 0#32 := rfl
theorem test_topology_cleared : fullOuts (withExtEcx (ref 0x8000001E#32 0#32) 0x348233FF#32) [.eax, .ebx, .ecx, .edx] =
    allUnlisted 0x8000001E#32 0#32 := rfl

/-! The arithmetic on results: the source's own worked examples (section 1) -/

theorem test_s1_family : familyOf 0x00800F12#32 = 0x17#8 := by decide
theorem test_s2_model : modelOf 0x00810F80#32 = 0x18#8 := by decide
theorem test_s3_revision : revisionLetter 0x00800F12#32 = 'B' ∧ steppingOf 0x00800F12#32 = 2#4 := by decide
theorem test_s5_threads : threadsInPackage 0x00000000#32 = 1 := by decide

/-! Witnesses -/

theorem witness_VendorAndIdentityRows :
    ((ref 0x0#32 0#32).Ready ∧ (ref 0x0#32 0#32).NoOverride ∧ (ref 0x0#32 0#32).self.functionIn = 0x0#32 ∧ (ref 0x0#32 0#32).self.subleafIn = 0#32) ∧
    ((ref 0x1#32 0#32).Ready ∧ (ref 0x1#32 0#32).NoOverride ∧ (ref 0x1#32 0#32).self.functionIn = 0x1#32 ∧ (ref 0x1#32 0#32).self.subleafIn = 0#32) :=
  ⟨⟨⟨rfl, rfl⟩, rfl, rfl, rfl⟩, ⟨⟨rfl, rfl⟩, rfl, rfl, rfl⟩⟩
theorem witness_MonitorAndPowerRows :
    ((ref 0x5#32 0#32).Ready ∧ (ref 0x5#32 0#32).NoOverride ∧ (ref 0x5#32 0#32).self.functionIn = 0x5#32 ∧ (ref 0x5#32 0#32).self.subleafIn = 0#32) ∧
    ((ref 0x6#32 0#32).Ready ∧ (ref 0x6#32 0#32).NoOverride ∧ (ref 0x6#32 0#32).self.functionIn = 0x6#32 ∧ (ref 0x6#32 0#32).self.subleafIn = 0#32) :=
  ⟨⟨⟨rfl, rfl⟩, rfl, rfl, rfl⟩, ⟨⟨rfl, rfl⟩, rfl, rfl, rfl⟩⟩
theorem witness_StructuredAndTopologyRows :
    ((ref 0x7#32 0#32).Ready ∧ (ref 0x7#32 0#32).self.functionIn = 0x7#32 ∧ (ref 0x7#32 0#32).self.subleafIn = 0#32) ∧
    ((ref 0xB#32 0#32).Ready ∧ (ref 0xB#32 0#32).self.functionIn = 0xB#32 ∧ (ref 0xB#32 0#32).self.subleafIn = 0#32) :=
  ⟨⟨⟨rfl, rfl⟩, rfl, rfl⟩, ⟨⟨rfl, rfl⟩, rfl, rfl⟩⟩
theorem witness_XstateRows :
    ((ref 0xD#32 0#32).Ready ∧ (ref 0xD#32 0#32).self.functionIn = 0xD#32 ∧ (ref 0xD#32 0#32).self.subleafIn = 0#32) ∧
    ((ref 0xD#32 1#32).Ready ∧ (ref 0xD#32 1#32).self.functionIn = 0xD#32 ∧ (ref 0xD#32 1#32).self.subleafIn = 1#32) ∧
    ((ref 0xD#32 2#32).Ready ∧ (ref 0xD#32 2#32).self.functionIn = 0xD#32 ∧ (ref 0xD#32 2#32).self.subleafIn = 2#32) :=
  ⟨⟨⟨rfl, rfl⟩, rfl, rfl⟩, ⟨⟨rfl, rfl⟩, rfl, rfl⟩, ⟨⟨rfl, rfl⟩, rfl, rfl⟩⟩
theorem witness_ExtendedIdentityRows :
    ((ref 0x80000000#32 0#32).Ready ∧ (ref 0x80000000#32 0#32).NoOverride ∧ (ref 0x80000000#32 0#32).self.functionIn = 0x80000000#32 ∧ (ref 0x80000000#32 0#32).self.subleafIn = 0#32) ∧
    ((ref 0x80000001#32 0#32).Ready ∧ (ref 0x80000001#32 0#32).NoOverride ∧ (ref 0x80000001#32 0#32).self.functionIn = 0x80000001#32 ∧ (ref 0x80000001#32 0#32).self.subleafIn = 0#32) :=
  ⟨⟨⟨rfl, rfl⟩, rfl, rfl, rfl⟩, ⟨⟨rfl, rfl⟩, rfl, rfl, rfl⟩⟩
theorem witness_NameStringRows :
    ((ref 0x80000002#32 0#32).Ready ∧ (ref 0x80000002#32 0#32).self.functionIn = 0x80000002#32 ∧ (ref 0x80000002#32 0#32).self.subleafIn = 0#32) ∧
    ((ref 0x80000003#32 0#32).Ready ∧ (ref 0x80000003#32 0#32).self.functionIn = 0x80000003#32 ∧ (ref 0x80000003#32 0#32).self.subleafIn = 0#32) ∧
    ((ref 0x80000004#32 0#32).Ready ∧ (ref 0x80000004#32 0#32).self.functionIn = 0x80000004#32 ∧ (ref 0x80000004#32 0#32).self.subleafIn = 0#32) :=
  ⟨⟨⟨rfl, rfl⟩, rfl, rfl⟩, ⟨⟨rfl, rfl⟩, rfl, rfl⟩, ⟨⟨rfl, rfl⟩, rfl, rfl⟩⟩
theorem witness_CacheAndTlbRows :
    ((ref 0x80000005#32 0#32).Ready ∧ (ref 0x80000005#32 0#32).self.functionIn = 0x80000005#32 ∧ (ref 0x80000005#32 0#32).self.subleafIn = 0#32) ∧
    ((ref 0x80000006#32 0#32).Ready ∧ (ref 0x80000006#32 0#32).self.functionIn = 0x80000006#32 ∧ (ref 0x80000006#32 0#32).self.subleafIn = 0#32) :=
  ⟨⟨⟨rfl, rfl⟩, rfl, rfl⟩, ⟨⟨rfl, rfl⟩, rfl, rfl⟩⟩
theorem witness_PowerSizeSvmRows :
    ((ref 0x80000007#32 0#32).Ready ∧ (ref 0x80000007#32 0#32).NoOverride ∧ (ref 0x80000007#32 0#32).self.functionIn = 0x80000007#32 ∧ (ref 0x80000007#32 0#32).self.subleafIn = 0#32) ∧
    ((ref 0x80000008#32 0#32).Ready ∧ (ref 0x80000008#32 0#32).NoOverride ∧ (ref 0x80000008#32 0#32).self.functionIn = 0x80000008#32 ∧ (ref 0x80000008#32 0#32).self.subleafIn = 0#32) ∧
    ((ref 0x8000000A#32 0#32).Ready ∧ (ref 0x8000000A#32 0#32).NoOverride ∧ (ref 0x8000000A#32 0#32).self.functionIn = 0x8000000A#32 ∧ (ref 0x8000000A#32 0#32).self.subleafIn = 0#32) :=
  ⟨⟨⟨rfl, rfl⟩, rfl, rfl, rfl⟩, ⟨⟨rfl, rfl⟩, rfl, rfl, rfl⟩, ⟨⟨rfl, rfl⟩, rfl, rfl, rfl⟩⟩
theorem witness_TlbIbsSevRows :
    ((ref 0x80000019#32 0#32).Ready ∧ (ref 0x80000019#32 0#32).self.functionIn = 0x80000019#32 ∧ (ref 0x80000019#32 0#32).self.subleafIn = 0#32) ∧
    ((ref 0x8000001A#32 0#32).Ready ∧ (ref 0x8000001A#32 0#32).self.functionIn = 0x8000001A#32 ∧ (ref 0x8000001A#32 0#32).self.subleafIn = 0#32) ∧
    ((ref 0x8000001B#32 0#32).Ready ∧ (ref 0x8000001B#32 0#32).self.functionIn = 0x8000001B#32 ∧ (ref 0x8000001B#32 0#32).self.subleafIn = 0#32) ∧
    ((ref 0x8000001F#32 0#32).Ready ∧ (ref 0x8000001F#32 0#32).self.functionIn = 0x8000001F#32 ∧ (ref 0x8000001F#32 0#32).self.subleafIn = 0#32) :=
  ⟨⟨⟨rfl, rfl⟩, rfl, rfl⟩, ⟨⟨rfl, rfl⟩, rfl, rfl⟩, ⟨⟨rfl, rfl⟩, rfl, rfl⟩, ⟨⟨rfl, rfl⟩, rfl, rfl⟩⟩
theorem witness_CacheTypeAndWaysRows :
    ((ref 0x8000001D#32 0#32).Ready ∧ (ref 0x8000001D#32 0#32).NoOverride ∧ (ref 0x8000001D#32 0#32).self.functionIn = 0x8000001D#32 ∧ (ref 0x8000001D#32 0#32).self.subleafIn = 0#32) ∧
    ((ref 0x8000001D#32 1#32).Ready ∧ (ref 0x8000001D#32 1#32).NoOverride ∧ (ref 0x8000001D#32 1#32).self.functionIn = 0x8000001D#32 ∧ (ref 0x8000001D#32 1#32).self.subleafIn = 1#32) ∧
    ((ref 0x8000001D#32 2#32).Ready ∧ (ref 0x8000001D#32 2#32).NoOverride ∧ (ref 0x8000001D#32 2#32).self.functionIn = 0x8000001D#32 ∧ (ref 0x8000001D#32 2#32).self.subleafIn = 2#32) ∧
    ((ref 0x8000001D#32 3#32).Ready ∧ (ref 0x8000001D#32 3#32).NoOverride ∧ (ref 0x8000001D#32 3#32).self.functionIn = 0x8000001D#32 ∧ (ref 0x8000001D#32 3#32).self.subleafIn = 3#32) ∧
    ((ref 0x8000001D#32 4#32).Ready ∧ (ref 0x8000001D#32 4#32).NoOverride ∧ (ref 0x8000001D#32 4#32).self.functionIn = 0x8000001D#32 ∧ (ref 0x8000001D#32 4#32).self.subleafIn = 4#32) :=
  ⟨⟨⟨rfl, rfl⟩, rfl, rfl, rfl⟩, ⟨⟨rfl, rfl⟩, rfl, rfl, rfl⟩, ⟨⟨rfl, rfl⟩, rfl, rfl, rfl⟩, ⟨⟨rfl, rfl⟩, rfl, rfl, rfl⟩, ⟨⟨rfl, rfl⟩, rfl, rfl, rfl⟩⟩
theorem witness_CacheSetsAndInclusionRows :
    ((ref 0x8000001D#32 0#32).Ready ∧ (ref 0x8000001D#32 0#32).NoOverride ∧ (ref 0x8000001D#32 0#32).self.functionIn = 0x8000001D#32 ∧ (ref 0x8000001D#32 0#32).self.subleafIn = 0#32) ∧
    ((ref 0x8000001D#32 1#32).Ready ∧ (ref 0x8000001D#32 1#32).NoOverride ∧ (ref 0x8000001D#32 1#32).self.functionIn = 0x8000001D#32 ∧ (ref 0x8000001D#32 1#32).self.subleafIn = 1#32) ∧
    ((ref 0x8000001D#32 2#32).Ready ∧ (ref 0x8000001D#32 2#32).NoOverride ∧ (ref 0x8000001D#32 2#32).self.functionIn = 0x8000001D#32 ∧ (ref 0x8000001D#32 2#32).self.subleafIn = 2#32) ∧
    ((ref 0x8000001D#32 3#32).Ready ∧ (ref 0x8000001D#32 3#32).NoOverride ∧ (ref 0x8000001D#32 3#32).self.functionIn = 0x8000001D#32 ∧ (ref 0x8000001D#32 3#32).self.subleafIn = 3#32) ∧
    ((ref 0x8000001D#32 4#32).Ready ∧ (ref 0x8000001D#32 4#32).NoOverride ∧ (ref 0x8000001D#32 4#32).self.functionIn = 0x8000001D#32 ∧ (ref 0x8000001D#32 4#32).self.subleafIn = 4#32) :=
  ⟨⟨⟨rfl, rfl⟩, rfl, rfl, rfl⟩, ⟨⟨rfl, rfl⟩, rfl, rfl, rfl⟩, ⟨⟨rfl, rfl⟩, rfl, rfl, rfl⟩, ⟨⟨rfl, rfl⟩, rfl, rfl, rfl⟩, ⟨⟨rfl, rfl⟩, rfl, rfl, rfl⟩⟩
theorem witness_IdentifierRows :
    ((ref 0x8000001E#32 0#32).Ready ∧ (ref 0x8000001E#32 0#32).NoOverride ∧ (ref 0x8000001E#32 0#32).self.functionIn = 0x8000001E#32 ∧ (ref 0x8000001E#32 0#32).self.subleafIn = 0#32) :=
  ⟨⟨rfl, rfl⟩, rfl, rfl, rfl⟩
theorem witness_LeafTableOfR101 :
    (∀ lf ∈ leafTable, (ref lf.fn (lf.sub.getD 0xFFFFFFFF#32)).snapshot.fn = lf.fn ∧
      lf.matches (ref lf.fn (lf.sub.getD 0xFFFFFFFF#32)).snapshot.fn (ref lf.fn (lf.sub.getD 0xFFFFFFFF#32)).snapshot.sub = true) ∧
    ∀ lf ∈ leafTable, lf.matches (ref 0x2#32 0#32).snapshot.fn (ref 0x2#32 0#32).snapshot.sub = false := by decide
theorem witness_SubleafIgnoredWithoutSuffix : (0x1#32 : Word) ≠ 0x7#32 ∧ (0x1#32 : Word) ≠ 0xD#32 ∧ (0x1#32 : Word) ≠ 0x8000001D#32 ∧
    (ref 0xB#32 1#32).snapshot.fn = 0xB#32 := by decide
theorem witness_CpuidCompletesWithLeaf : (ref 0#32 0#32).Ready ∧ (alt 0xFFFFFFFF#32 0xFFFFFFFF#32).Ready ∧
    (∀ out : Gpr, (decodePoint ⟨(ref 0#32 0#32).self.functionIn, (ref 0#32 0#32).self.subleafIn, out⟩).isSome = true) ∧
    (ref 0#32 0#32).self.overrides.featureExtIdEcx = none :=
  ⟨⟨rfl, rfl⟩, ⟨rfl, rfl⟩, fun out => by cases out <;> rfl, rfl⟩
theorem witness_CpuidIsItsSelectedRows : (ref 0xD#32 2#32).Ready ∧
    Instr.fn0000000D_EBX_x02.selector = some ⟨0xD#32, some 2#32, .ebx⟩ ∧
    (Selector.mk 0xD#32 (some 2#32) .ebx).accepts (ref 0xD#32 2#32).self.functionIn (ref 0xD#32 2#32).self.subleafIn = true :=
  ⟨⟨rfl, rfl⟩, rfl, rfl⟩
theorem witness_UnlistedOutputIsFree : (ref 0x80000008#32 0#32).Ready ∧
    decodePoint ⟨(ref 0x80000008#32 0#32).self.functionIn, (ref 0x80000008#32 0#32).self.subleafIn, .edx⟩ = none :=
  ⟨⟨rfl, rfl⟩, rfl⟩
theorem witness_CpuidReadsOnlyLowHalves : (ref 0#32 0#32).Ready ∧
    let h := (ref 0#32 0#32).self
    let h' := (withFull (ref 0#32 0#32) 0xFFFFFFFF00000000#64 7#64 0xDEADBEEF00000000#64 8#64).self
    h.functionIn = h'.functionIn ∧ h.subleafIn = h'.subleafIn ∧ h.pc = h'.pc ∧ h.rflags = h'.rflags ∧ h.inputs = h'.inputs ∧
      h.overrides = h'.overrides ∧ h.unlistedKey = h'.unlistedKey ∧ h ≠ h' :=
  ⟨⟨rfl, rfl⟩, by decide⟩
theorem witness_RowNotSelectedWritesNothing : (ref 0xD#32 3#32).Ready ∧
    Instr.fn0000000D_EBX_x02.selector = some ⟨0xD#32, some 2#32, .ebx⟩ ∧
    (Selector.mk 0xD#32 (some 2#32) .ebx).accepts (ref 0xD#32 3#32).self.functionIn (ref 0xD#32 3#32).self.subleafIn = false :=
  ⟨⟨rfl, rfl⟩, rfl, rfl⟩
theorem witness_RowFrame : Instr.fn80000008_ECX.selector = some ⟨0x80000008#32, none, .ecx⟩ ∧
    (∃ t : State, exec .fn80000008_ECX (ref 0x80000008#32 0#32) = .next t) ∧
    ∃ t : State, exec .fn80000008_ECX (ref 0x80000007#32 0#32) = .next t := ⟨rfl, ⟨_, rfl⟩, ⟨_, rfl⟩⟩

/-- `ref fn 0` with all five overrides written. -/
def withAllOverrides (fn : Word) : State :=
  let s := ref fn 0#32
  s.setSelf { s.self with overrides := ⟨some 1#32, some 1#32, some 1#32, some 1#32, some 1#32⟩ }

theorem witness_OverrideReplacesRegister :
    ((withAllOverrides 1#32).Ready ∧ (withAllOverrides 1#32).self.overrides.featureIdEcx = some 1#32 ∧
      (withAllOverrides 1#32).self.overrides.featureIdEdx = some 1#32 ∧ (withAllOverrides 1#32).self.functionIn = 1#32) ∧
    ((withAllOverrides 0x80000001#32).Ready ∧ (withAllOverrides 0x80000001#32).self.overrides.featureExtIdEcx = some 1#32 ∧
      (withAllOverrides 0x80000001#32).self.overrides.featureExtIdEdx = some 1#32 ∧
      (withAllOverrides 0x80000001#32).self.functionIn = 0x80000001#32) ∧
    ((withAllOverrides 6#32).Ready ∧ (withAllOverrides 6#32).self.overrides.thermalPwrMgmtEcx = some 1#32 ∧
      (withAllOverrides 6#32).self.functionIn = 6#32) :=
  ⟨⟨⟨rfl, rfl⟩, rfl, rfl, rfl⟩, ⟨⟨rfl, rfl⟩, rfl, rfl, rfl⟩, ⟨⟨rfl, rfl⟩, rfl, rfl⟩⟩
theorem witness_ClearedFeatureMakesRowsUnlisted :
    (withExtEcx (ref 0x8000000A#32 0#32) 0#32).Ready ∧
    (withExtEcx (ref 0x8000000A#32 0#32) 0#32).self.overrides.featureExtIdEcx = some 0#32 ∧
    (withExtEcx (ref 0x8000000A#32 0#32) 0#32).self.functionIn = 0x8000000A#32 ∧
    (∀ n : Fin 5, (withExtEcx (ref 0x8000001D#32 (BitVec.ofNat 32 n.val)) 0#32).self.functionIn = 0x8000001D#32 ∧
      (withExtEcx (ref 0x8000001D#32 (BitVec.ofNat 32 n.val)) 0#32).self.subleafIn = BitVec.ofNat 32 n.val ∧
      (withExtEcx (ref 0x8000001D#32 (BitVec.ofNat 32 n.val)) 0#32).Ready) ∧
    (withExtEcx (ref 0x8000001E#32 0#32) 0#32).self.functionIn = 0x8000001E#32 ∧
    (0#32).getLsbD 2 = false ∧ (0#32).getLsbD 22 = false :=
  ⟨⟨rfl, rfl⟩, rfl, rfl, fun n => ⟨by revert n; decide, by revert n; decide, ⟨rfl, rfl⟩⟩, rfl, rfl, rfl⟩
theorem witness_FieldsCoverAndReadBack : Instr.fn80000008_ECX ≠ .cpuid ∧ (ref 0#32 0#32).snapshot.ov = Overrides.none ∧
    plainField 3 0 "Stepping" 0x2#32 ∈ rowFields .fn00000001_EAX (ref 0#32 0#32).snapshot ∧
    reservedField 31 28 ∈ rowFields .fn00000001_EAX (ref 0#32 0#32).snapshot := by decide
theorem witness_PrintedResetsAgree : (ref 0#32 0#32).snapshot.p.wellFormed = true ∧
    (ref 0#32 0#32).snapshot.ov = Overrides.none ∧ (ref 0#32 0#32).snapshot.inp.nasid = 0x8000#32 ∧
    printedReset .fn00000001_EAX = some (0xFFFFFF0F#32, 0x00800F02#32) := by decide
theorem witness_ThreadCountFieldsAgree : (refNc 0xFE#8 1#32).snapshot.p.wellFormed = true ∧
    (refNc 0xFE#8 1#32).snapshot.ov = Overrides.none ∧ (refNc 0#8 1#32).snapshot.p.wellFormed = true := by decide
theorem witness_CacheGeometryAgrees : (ref 0#32 0#32).snapshot.ov = Overrides.none := by decide
theorem witness_ThreadsOfOneCoreShareCacheProperties : (ref 0x8000001D#32 0#32).snapshot.ov = Overrides.none := by decide
theorem witness_OnlyInputFedRegistersVary : Instr.fn80000008_ECX ≠ .cpuid ∧ (ref 0#32 0#32).snapshot.ov = Overrides.none ∧
    (rowFields .fn80000008_ECX (ref 0#32 0#32).snapshot).all (fun f => f.source != .input) = true ∧
    (rowFields .fn8000000A_EBX (ref 0#32 0#32).snapshot).all (fun f => f.source != .input) = false := by decide
theorem witness_RepeatedCpuidReturnsTheSame : (ref 0x80000008#32 0#32).Ready ∧ (ref 0x80000008#32 0#32).NoOverride ∧
    (decodePoint ⟨(ref 0x80000008#32 0#32).self.functionIn, (ref 0x80000008#32 0#32).self.subleafIn, .ecx⟩).isSome = true :=
  ⟨⟨rfl, rfl⟩, rfl, rfl⟩

/-- `ref fn sub` with these moves scheduled. -/
def scheduled (fn sub : Word) (ms : List Move) : State := { ref fn sub with agenda := ms }

theorem witness_StepRunsDecodedInstruction : (ref 0#32 0#32).params.wellFormed = true ∧ (ref 0#32 0#32).agenda = [] ∧
    decode (ref 0#32 0#32).fetchBytes = .ok (.cpuid, []) ∧
    (scheduled 0#32 0#32 [.run ⟨0, 0, 0⟩]).agenda = .run ⟨0, 0, 0⟩ :: [] ∧
    decode (State.fetchBytes { scheduled 0#32 0#32 [.run ⟨0, 0, 0⟩] with current := ⟨0, 0, 0⟩, agenda := [] }) = .ok (.cpuid, []) := by
  decide
/-- `ref 0 0` with a turn of the absent thread (1, 0, 0): scheduled, or as the current thread with nothing scheduled. -/
def absentTurn : State := scheduled 0#32 0#32 [.run ⟨1, 0, 0⟩]
def absentCurrent : State := onThread refParams ⟨1, 0, 0⟩ refInputs 0#32 0#32

theorem witness_ReservedConfigurationIsRefused : (refNc 0xFF#8 1#32).params.wellFormed = false ∧
    (ref 0#32 0#32).params.wellFormed = true ∧ ((ref 0#32 0#32).params.threadParams (ref 0#32 0#32).current).present = true ∧
    absentCurrent.params.wellFormed = true ∧ (absentCurrent.params.threadParams absentCurrent.current).present = false ∧
    absentCurrent.agenda = [] ∧
    State.fetchBytes { absentCurrent with current := ⟨1, 0, 0⟩, agenda := [] } = [0x0F#8, 0xA2#8] ∧
    absentTurn.params.wellFormed = true ∧ (absentTurn.params.threadParams ⟨1, 0, 0⟩).present = false ∧
    absentTurn.agenda = .run ⟨1, 0, 0⟩ :: [] ∧
    State.fetchBytes { absentTurn with current := ⟨1, 0, 0⟩, agenda := [] } = [0x0F#8, 0xA2#8] := by decide
theorem witness_OtherBytesAreRefused : State.reset.params.wellFormed = true ∧ State.reset.agenda = [] ∧
    State.reset.fetchBytes = [] ∧ ({ ref 0#32 0#32 with mem := [(0, 0x0F#8)] } : State).fetchBytes = [0x0F#8] ∧
    (refBytes [0x0F#8, 0xA3#8]).fetchBytes = [0x0F#8, 0xA3#8] ∧ (refBytes [0x4F#8, 0x0F#8]).fetchBytes = [0x4F#8, 0x0F#8] := by
  decide
theorem witness_EnvironmentChangesOneInput :
    ∀ ch ∈ [InputChange.osxsave true, .monMwaitDis true, .apicEn false, .xcr0Avx true, .apicId 0xFF#8, .nasid 0xFFFFFFFF#32,
      .procNameByte 0 0 0xFF#8, .procNameByte 5 7 0xFF#8],
      (scheduled 0#32 0#32 [.change ⟨0, 0, 0⟩ ch]).params.wellFormed = true ∧
      (scheduled 0#32 0#32 [.change ⟨0, 0, 0⟩ ch]).agenda = .change ⟨0, 0, 0⟩ ch :: [] ∧
      (State.changeInput { scheduled 0#32 0#32 [.change ⟨0, 0, 0⟩ ch] with agenda := [] } ⟨0, 0, 0⟩ ch).hart ⟨0, 0, 0⟩ ≠
        (ref 0#32 0#32).hart ⟨0, 0, 0⟩ := by decide

/-- Moves before the turn of thread (0, 1, 1): two changes of its own inputs, a change of another thread's, and that
thread's turn. -/
def movesBefore : List Move :=
  [.change ⟨0, 1, 1⟩ (.xcr0Avx true), .change ⟨0, 0, 0⟩ (.nasid 1#32), .run ⟨0, 0, 0⟩, .change ⟨0, 1, 1⟩ (.nasid 2#32)]

/-- Changes only, after which thread (0, 1, 1) is still the current one. -/
def changesBefore : List Move := [.change ⟨0, 1, 1⟩ (.xcr0Avx true), .change ⟨0, 0, 0⟩ (.nasid 1#32)]

theorem witness_InputChangeVisibleAcrossOtherMoves :
    (.run ⟨0, 1, 1⟩ ∉ movesBefore ∧
      (scheduled 0xD#32 0#32 (movesBefore ++ [.run ⟨0, 1, 1⟩])).agenda = movesBefore ++ .run ⟨0, 1, 1⟩ :: [] ∧
      ∃ u : State, stepN movesBefore.length (scheduled 0xD#32 0#32 (movesBefore ++ [.run ⟨0, 1, 1⟩])) = .next u) ∧
    (.run ⟨0, 1, 1⟩ ∉ changesBefore ∧ (scheduled 0xD#32 0#32 changesBefore).agenda = changesBefore ∧
      ∃ u : State, stepN changesBefore.length (scheduled 0xD#32 0#32 changesBefore) = .next u ∧ u.current = ⟨0, 1, 1⟩) :=
  ⟨⟨by decide, rfl, _, rfl⟩, by decide, rfl, _, rfl, rfl⟩
theorem witness_InputChangeVisibleToNextCpuid :
    (ref 0xD#32 0#32).params.wellFormed = true ∧ ((ref 0xD#32 0#32).params.threadParams ⟨0, 1, 1⟩).present = true ∧
    ((ref 0xD#32 0#32).params.threadParams ⟨0, 0, 0⟩).present = true ∧
    State.fetchBytes { scheduled 0xD#32 0#32 [.change ⟨0, 1, 1⟩ (.xcr0Avx true)] with current := ⟨0, 1, 1⟩ } = [0x0F#8, 0xA2#8] ∧
    (scheduled 0xD#32 0#32 [.change ⟨0, 1, 1⟩ (.xcr0Avx true)]).current = ⟨0, 1, 1⟩ ∧
    State.fetchBytes { scheduled 0#32 0#32 [.change ⟨0, 0, 0⟩ (.nasid 1#32), .run ⟨0, 0, 0⟩] with current := ⟨0, 0, 0⟩ } =
      [0x0F#8, 0xA2#8] ∧
    (scheduled 0#32 0#32 [.change ⟨0, 0, 0⟩ (.nasid 1#32), .run ⟨0, 0, 0⟩]).agenda =
      .change ⟨0, 0, 0⟩ (.nasid 1#32) :: .run ⟨0, 0, 0⟩ :: [] := by decide
theorem witness_RegisterFileIsReadOnly : Instr.fn80000008_ECX ≠ .cpuid ∧ (∃ t : State, exec .cpuid (ref 0#32 0#32) = .next t) ∧
    ((ref 0#32 0#32).hart ⟨0, 1, 1⟩).overrides = Overrides.none ∧ ((ref 0#32 0#32).hart ⟨0, 0, 0⟩).overrides = Overrides.none :=
  ⟨by decide, ⟨_, rfl⟩, rfl, rfl⟩
theorem witness_EncodingPlacedAtPcRuns : State.reset.Ready ∧
    Instr.fn8000001D_ECX_x04.selector = some ⟨0x8000001D#32, some 4#32, .ecx⟩ := ⟨⟨rfl, rfl⟩, rfl⟩
theorem witness_NothingWritesTheConfiguration : (∃ t : State, step (ref 0#32 0#32) = .next t) ∧
    ∃ t : State, step (scheduled 0#32 0#32 [.change ⟨0, 0, 0⟩ (.nasid 1#32)]) = .next t := ⟨⟨_, rfl⟩, ⟨_, rfl⟩⟩
theorem witness_StepKeepsTheInvariant : (ref 0#32 0#32).Inv ∧ ∃ t : State, step (ref 0#32 0#32) = .next t :=
  ⟨⟨rfl, rfl, by unfold pcFits; decide⟩, ⟨_, rfl⟩⟩

/-- `ref fn 0` in a configuration whose other threads and cores have other parameters. -/
def otherNeighbours (fn : Word) : State :=
  { ref fn 0#32 with
    params := { refParams with
      thread := (Vector.replicate 16 altThread).set 3 (refThread 0x03#8 0x01#8)
      numSharingCacheDC := (Vector.replicate 8 0xFFF#12).set 1 0x001#12 }
    mem := [] }

theorem witness_ThreadReadsItsOwnInstance : (ref 0x8000001E#32 0#32).Ready ∧
    let s := ref 0x8000001E#32 0#32
    let s' := otherNeighbours 0x8000001E#32
    s'.current = s.current ∧ s'.self = s.self ∧
    s'.params = { s.params with thread := s'.params.thread, numSharingCacheDC := s'.params.numSharingCacheDC } ∧
    s'.params.threadParams s.current = s.params.threadParams s.current ∧
    s'.params.dcSharing s.current = s.params.dcSharing s.current ∧ s'.params ≠ s.params := ⟨⟨rfl, rfl⟩, by decide⟩
theorem witness_ThreadsCommute : List.Perm [(⟨0, 0, 0⟩ : ThreadId), ⟨0, 1, 1⟩] [⟨0, 1, 1⟩, ⟨0, 0, 0⟩] ∧
    ∃ t : State, stepN 2 { ref 0#32 0#32 with agenda := [(⟨0, 0, 0⟩ : ThreadId), ⟨0, 1, 1⟩].map Move.run } = .next t :=
  ⟨by decide, ⟨_, rfl⟩⟩

end Sys2Proof.Tests
end

