-- ==== Sys2Proof/Proofs/Scope.lean ====
section
/-! PROOFS. The scope of the model: what every step keeps, which configurations are refused, and how the fields of a register
stand in its value. -/

namespace Sys2Proof.Machine

open Sys2Proof

/-! The invariant -/

/-- The invariant asks of the threads one thing, thread by thread. -/
theorem State.inv_iff_hart {s : State} : s.Inv ↔
    s.params.wellFormed = true ∧ s.mem.wf = true ∧ ∀ t : ThreadId, pcFits s.params.pcWidth (s.hart t).pc := by
  refine and_congr_right' (and_congr_right' ⟨fun h t => h t.index, fun h i => ?_⟩)
  obtain ⟨t, rfl⟩ := ThreadId.index_surj i
  exact h t

/-- Replacing one thread keeps the invariant where the new thread's pc fits. -/
theorem State.inv_setHart {s : State} (hs : s.Inv) (t : ThreadId) {h : Hart} (hpc : pcFits s.params.pcWidth h.pc) :
    (s.setHart t h).Inv := by
  obtain ⟨hp, hm, hall⟩ := State.inv_iff_hart.mp hs
  refine State.inv_iff_hart.mpr ⟨hp, hm, fun u => ?_⟩
  by_cases hu : u = t
  · subst hu
    simpa using hpc
  · simpa [hu] using hall u

/-- The schedule is no part of the invariant. -/
theorem State.inv_reschedule {s : State} (hs : s.Inv) (t : ThreadId) (ms : List Move) :
    State.Inv { s with current := t, agenda := ms } := hs

/-- A thread's turn keeps the invariant: only its own thread changes, and its pc is the one after `CPUID`. -/
theorem runThread_keeps_inv {s s' : State} (hs : s.Inv) (h : runThread s = .next s') : s'.Inv := by
  obtain ⟨_, _, _, rfl⟩ := runThread_next h
  exact State.inv_setHart hs _ (pcFits_advancePc s.params.pcWidth s.self.pc 2)

/-- The environment's move keeps the invariant: it leaves every pc as it is. -/
theorem changeInput_keeps_inv {s : State} (hs : s.Inv) (t : ThreadId) (ch : InputChange) : (s.changeInput t ch).Inv :=
  have ⟨_, _, hpc⟩ := State.inv_iff_hart.mp hs
  State.inv_setHart hs t (hpc t)

/-- Settles O46: by the three things a step can do. -/
theorem stepKeepsTheInvariant : Obligations.StepKeepsTheInvariant := by
  intro s t hs h
  obtain ⟨_, ⟨_, hrun⟩ | ⟨u, rest, _, hrun⟩ | ⟨u, ch, rest, _, rfl⟩⟩ := step_next h
  · exact runThread_keeps_inv hs hrun
  · exact runThread_keeps_inv (State.inv_reschedule hs u rest) hrun
  · exact changeInput_keeps_inv (State.inv_reschedule hs s.current rest) u ch

/-- Settles O45: configuration REF is legal, memory is empty, and with 64-bit pointers every pc fits. -/
theorem resetHasTheInvariant : Obligations.ResetHasTheInvariant :=
  ⟨rfl, Memory.wf_reset, fun _ => rfl⟩

/-! Reserved configurations and absent threads -/

/-- `P.Threads` is empty exactly if every thread is outside it. -/
theorem threadsOk_eq_false_iff (p : Params) :
    p.threadsOk = false ↔ ∀ t : ThreadId, (p.threadParams t).present = false := by
  have hmem : p.threadsOk = false ↔ ∀ i : Fin 16, (p.thread.get i).present = false := by
    simp [Params.threadsOk, Vector.get_eq_getElem, Vector.any_eq_false, Fin.forall_iff]
  rw [hmem]
  refine ⟨fun h t => h t.index, fun h i => ?_⟩
  obtain ⟨t, rfl⟩ := ThreadId.index_surj i
  exact h t

/-- The reserved configurations, check by check. -/
theorem wellFormed_eq_false_iff (p : Params) : p.wellFormed = false ↔
    p.nc = 0xFF#8 ∨ p.pkgType ≠ 2#4 ∨
    (p.xFeatureSupportedSizeMax ≠ 0x240#32 ∧ p.xFeatureSupportedSizeMax ≠ 0x340#32) ∨
    (p.l2DTlb2and4MAssoc ≠ 2#4 ∧ p.l2DTlb2and4MAssoc ≠ 3#4) ∨
    (p.l2DTlb4KAssoc ≠ 5#4 ∧ p.l2DTlb4KAssoc ≠ 6#4) ∨
    p.l3Assoc ∉ [0x8#4, 0xA#4, 0xB#4, 0xC#4, 0xD#4, 0xE#4] ∨
    (p.l3NumSets ≠ 0xFFF#32 ∧ p.l3NumSets ≠ 0x1FFF#32) ∨
    p.nodesPerProcessor ∉ [0#3, 1#3, 3#3] ∨ 0xF < p.minimumSevAsid.toNat ∨
    ∀ t : ThreadId, (p.threadParams t).present = false := by
  simp only [Params.wellFormed, Bool.and_eq_false_iff, threadsOk_eq_false_iff, or_assoc]
  simp [Params.ncOk, Params.pkgTypeOk, Params.xFeatureSizeOk, Params.l2DTlb2and4MAssocOk, Params.l2DTlb4KAssocOk,
    Params.l3AssocOk, Params.l3NumSetsOk, Params.nodesOk, Params.minimumSevAsidOk, and_assoc]

/-- Undecodable bytes are refused by a name of their own. -/
theorem rejection_ne_reservedConfiguration (r : DecodeReject) : rejection r ≠ .reservedConfiguration := by
  cases r <;> exact Refusal.noConfusion

theorem exec_refused_reserved_iff (i : Instr) (s : State) :
    exec i s = .refused .reservedConfiguration ↔ s.params.wellFormed = false := by
  obtain ⟨s', hs'⟩ := exec_eq_whenReady i s
  rw [hs', State.whenReady]
  cases s.params.wellFormed with
  | false => simp
  | true => cases (s.params.threadParams s.current).present <;> simp

theorem exec_of_absent {s : State} (hp : s.params.wellFormed = true)
    (ha : (s.params.threadParams s.current).present = false) (i : Instr) : exec i s = .refused .noSuchThread := by
  obtain ⟨s', hs'⟩ := exec_eq_whenReady i s
  simp [hs', State.whenReady, hp, ha]

theorem exec_of_ready {s : State} (h : s.Ready) (i : Instr) : ∃ s', exec i s = .next s' := by
  obtain ⟨s', hs'⟩ := exec_eq_whenReady i s
  exact ⟨s', hs'.trans (State.whenReady_of_ready h _)⟩

/-- A thread's turn runs the instruction it decodes, or is refused by the name of what it met. -/
theorem runThread_cases (s : State) :
    (∃ i rest, decode s.fetchBytes = .ok (i, rest) ∧ runThread s = exec i s) ∨
      ∃ r, runThread s = .refused (rejection r) := by
  unfold runThread
  cases hd : decode s.fetchBytes with
  | ok d => exact .inl ⟨d.1, d.2, rfl, rfl⟩
  | error r => exact .inr ⟨r, rfl⟩

theorem runThread_not_refused_reserved {s : State} (hp : s.params.wellFormed = true) :
    runThread s ≠ .refused .reservedConfiguration := by
  intro h
  obtain ⟨i, _, _, hi⟩ | ⟨r, hr⟩ := runThread_cases s
  · simp [(exec_refused_reserved_iff i s).mp (hi.symm.trans h)] at hp
  · rw [hr, Host.Outcome.refused.injEq] at h
    exact rejection_ne_reservedConfiguration r h

theorem runThread_of_fetches_cpuid {s : State} (hb : s.fetchBytes = [0x0F#8, 0xA2#8]) : runThread s = exec .cpuid s := by
  have hd : decode s.fetchBytes = .ok (.cpuid, []) := decode_ok.mpr ⟨rfl, hb⟩
  simp [runThread, hd]

/-- The turn of a thread outside `P.Threads` is refused; where `CPUID` stands at its pc, by the name of an absent thread. -/
theorem runThread_of_absent {s : State} (hp : s.params.wellFormed = true)
    (ha : (s.params.threadParams s.current).present = false) :
    (∃ r, runThread s = .refused r) ∧ (s.fetchBytes = [0x0F#8, 0xA2#8] → runThread s = .refused .noSuchThread) := by
  refine ⟨?_, fun hb => (runThread_of_fetches_cpuid hb).trans (exec_of_absent hp ha .cpuid)⟩
  obtain ⟨i, _, _, hi⟩ | ⟨r, hr⟩ := runThread_cases s
  · exact ⟨_, hi.trans (exec_of_absent hp ha i)⟩
  · exact ⟨_, hr⟩

/-! Steps, by what the schedule holds -/

theorem step_of_reserved {s : State} (hp : s.params.wellFormed = false) : step s = .refused .reservedConfiguration := by
  simp [step, hp]

theorem step_of_empty {s : State} (hp : s.params.wellFormed = true) (ha : s.agenda = []) : step s = runThread s := by
  simp [step, hp, ha]

theorem step_of_run {s : State} {t : ThreadId} {ms : List Move} (hp : s.params.wellFormed = true)
    (ha : s.agenda = .run t :: ms) : step s = runThread { s with current := t, agenda := ms } := by
  simp [step, hp, ha]

theorem step_of_change {s : State} {t : ThreadId} {ch : InputChange} {ms : List Move} (hp : s.params.wellFormed = true)
    (ha : s.agenda = .change t ch :: ms) : step s = .next (State.changeInput { s with agenda := ms } t ch) := by
  simp [step, hp, ha]

/-- The turn of thread `t`, scheduled or with nothing scheduled, is the run of the state in which `t` is current. -/
theorem step_of_turn {s : State} {t : ThreadId} {ms : List Move} (hp : s.params.wellFormed = true)
    (hturn : s.agenda = .run t :: ms ∨ (s.agenda = [] ∧ ms = [] ∧ s.current = t)) :
    step s = runThread { s with current := t, agenda := ms } := by
  obtain ha | ⟨ha, rfl, rfl⟩ := hturn
  · exact step_of_run hp ha
  · rw [step_of_empty hp ha, ← ha]

theorem step_refused_reserved_iff (s : State) :
    step s = .refused .reservedConfiguration ↔ s.params.wellFormed = false := by
  refine ⟨fun h => Bool.eq_false_iff.mpr fun hp => ?_, step_of_reserved⟩
  match ha : s.agenda with
  | [] => exact runThread_not_refused_reserved hp ((step_of_empty hp ha).symm.trans h)
  | .run t :: ms =>
    exact runThread_not_refused_reserved (s := { s with current := t, agenda := ms }) hp ((step_of_run hp ha).symm.trans h)
  | .change t ch :: ms =>
    rw [step_of_change hp ha] at h
    cases h

/-- Settles O39: the refusals by name are those of the two checks of readiness, which a step and an instruction share. -/
theorem reservedConfigurationIsRefused : Obligations.ReservedConfigurationIsRefused := by
  intro s
  refine ⟨step_refused_reserved_iff s, fun i => exec_refused_reserved_iff i s, wellFormed_eq_false_iff s.params,
    fun hp => ⟨fun ha i => exec_of_absent hp ha i, fun hr i => exec_of_ready ⟨hp, hr⟩ i, fun t ms ha hturn => ?_⟩⟩
  rw [step_of_turn hp hturn]
  exact runThread_of_absent (s := { s with current := t, agenda := ms }) hp ha

/-! Fields: the widths of their values -/

/-- A value of at most `n` bits. -/
def FitsIn (w : Word) (n : Nat) : Prop := w.toNat < 2 ^ n

/-- A field's value is no wider than its bits `hi:lo`, so that the fields of a register keep out of each other's way. -/
def Field.Fits (f : Field) : Prop := FitsIn f.value (f.hi + 1 - f.lo)

/-- `FitsIn` as a test, for values written out. -/
theorem fitsIn_ofNat_iff (c n : Nat) : FitsIn (BitVec.ofNat 32 c) n ↔ c % 2 ^ 32 < 2 ^ n := by
  simp [FitsIn]

@[simp] theorem fitsIn_zero (n : Nat) : FitsIn 0#32 n := Nat.two_pow_pos n

theorem fitsIn_word (w : Word) : FitsIn w 32 := w.isLt

theorem fitsIn_zext {m n : Nat} (x : BitVec m) (h : m ≤ n) : FitsIn (zext x) n :=
  calc (zext x).toNat ≤ x.toNat := by simpa [zext] using Nat.mod_le _ _
    _ < 2 ^ m := x.isLt
    _ ≤ 2 ^ n := Nat.pow_le_pow_right (by decide) h

theorem fitsIn_bit (b : Bool) {n : Nat} (h : 0 < n) : FitsIn (bit b) n :=
  calc (bit b).toNat < 2 ^ 1 := by cases b <;> decide
    _ ≤ 2 ^ n := Nat.pow_le_pow_right (by decide) h

/-- A value of at most `n` bits has no bit from `n` on. -/
theorem FitsIn.getLsbD_eq_false {w : Word} {n k : Nat} (h : FitsIn w n) (hk : n ≤ k) : w.getLsbD k = false :=
  Nat.testBit_lt_two_pow (Nat.lt_of_lt_of_le h (Nat.pow_le_pow_right (by decide) hk))

theorem FitsIn.shiftLeft_or {a b : Word} {hi lo : Nat} (ha : FitsIn a (hi + 1 - lo)) (hb : FitsIn b lo) (hle : lo ≤ hi) :
    FitsIn (a <<< lo ||| b) (hi + 1) := by
  have hshift : (a <<< lo).toNat < 2 ^ (hi + 1) :=
    calc (a <<< lo).toNat ≤ a.toNat <<< lo := by simpa using Nat.mod_le _ _
      _ = a.toNat * 2 ^ lo := Nat.shiftLeft_eq _ _
      _ < 2 ^ (hi + 1 - lo) * 2 ^ lo := Nat.mul_lt_mul_of_pos_right ha (Nat.two_pow_pos lo)
      _ = 2 ^ (hi + 1) := by rw [← Nat.pow_add]; congr 1; omega
  have hlow : b.toNat < 2 ^ (hi + 1) := Nat.lt_of_lt_of_le hb (Nat.pow_le_pow_right (by decide) (by omega))
  rw [FitsIn, BitVec.toNat_or]
  exact Nat.or_lt_two_pow hshift hlow

/-! Slices of a value put together from fields -/

theorem getLsbD_lowMask (n k : Nat) : (lowMask n).getLsbD k = (decide (k < 32) && decide (k < n)) := by
  simp [lowMask, BitVec.getLsbD_ofNat]

/-- Bit `k` of `value[hi:lo]`. -/
theorem getLsbD_slice (w : Word) (hi lo k : Nat) (hhi : hi < 32) :
    (slice w hi lo).getLsbD k = (decide (k < hi + 1 - lo) && w.getLsbD (lo + k)) := by
  rw [slice, BitVec.getLsbD_and, BitVec.getLsbD_ushiftRight, getLsbD_lowMask, Bool.and_comm]
  congr 1
  have : k < hi + 1 - lo → k < 32 := by omega
  simpa using this

/-- The topmost field reads back, over any lower bits. -/
theorem slice_shiftLeft_or_same {a b : Word} {hi lo : Nat} (hhi : hi < 32) (ha : FitsIn a (hi + 1 - lo))
    (hb : FitsIn b lo) : slice (a <<< lo ||| b) hi lo = a := by
  refine BitVec.eq_of_getLsbD_eq fun k _ => ?_
  rw [getLsbD_slice _ _ _ _ hhi, BitVec.getLsbD_or, BitVec.getLsbD_shiftLeft, hb.getLsbD_eq_false (Nat.le_add_right lo k)]
  by_cases hk : k < hi + 1 - lo
  · have : lo + k < 32 := by omega
    simp [hk, this]
  · simp [hk, ha.getLsbD_eq_false (Nat.not_lt.mp hk)]

/-- A field above `hi` does not show in bits `hi:lo`. -/
theorem slice_shiftLeft_or_below {a b : Word} {hi lo pos : Nat} (hpos : hi < pos) (hhi : hi < 32) :
    slice (a <<< pos ||| b) hi lo = slice b hi lo := by
  refine BitVec.eq_of_getLsbD_eq fun k _ => ?_
  simp only [getLsbD_slice _ _ _ _ hhi, BitVec.getLsbD_or, BitVec.getLsbD_shiftLeft]
  by_cases hk : k < hi + 1 - lo
  · have : lo + k < pos := by omega
    simp [this]
  · simp [hk]

/-! Fields that cover -/

/-- The first field of a cover ends at the top; it reaches down to bit 0, or the others cover the bits below it. -/
theorem coversFrom_cons {top : Nat} {f : Field} {fs : List Field} : coversFrom top (f :: fs) = true ↔
    f.hi = top ∧ ((fs = [] ∧ f.lo = 0) ∨ (0 < f.lo ∧ f.lo ≤ f.hi ∧ coversFrom (f.lo - 1) fs = true)) := by
  cases fs with
  | nil => simp [coversFrom]
  | cons g gs => simp [coversFrom, and_assoc]

/-- Every field of a cover lies at or below its top. -/
theorem hi_le_of_coversFrom {top : Nat} {fs : List Field} (hc : coversFrom top fs = true) : ∀ f ∈ fs, f.hi ≤ top := by
  induction fs generalizing top with
  | nil => simp
  | cons f fs ih =>
    obtain ⟨rfl, ⟨rfl, _⟩ | ⟨_, _, hrest⟩⟩ := coversFrom_cons.mp hc
    · simp
    · refine List.forall_mem_cons.mpr ⟨le_rfl, fun g hg => ?_⟩
      have := ih hrest g hg
      omega

/-- The value put together from a cover is no wider than the cover. -/
theorem fitsIn_compose {top : Nat} {fs : List Field} (hc : coversFrom top fs = true) (hf : ∀ f ∈ fs, f.Fits) :
    FitsIn (compose fs) (top + 1) := by
  induction fs generalizing top with
  | nil => simp
  | cons f fs ih =>
    obtain ⟨hfit, hfits⟩ := List.forall_mem_cons.mp hf
    obtain ⟨rfl, ⟨rfl, hlo⟩ | ⟨hpos, hle, hrest⟩⟩ := coversFrom_cons.mp hc
    · exact hfit.shiftLeft_or (fitsIn_zero _) (hlo ▸ Nat.zero_le _)
    · have hlow := ih hrest hfits
      rw [Nat.sub_add_cancel hpos] at hlow
      exact hfit.shiftLeft_or hlow hle

/-- In the value put together from a cover, each field reads back at its bits (R10, R105). -/
theorem slice_compose {top : Nat} {fs : List Field} (htop : top < 32) (hc : coversFrom top fs = true)
    (hf : ∀ f ∈ fs, f.Fits) : ∀ f ∈ fs, slice (compose fs) f.hi f.lo = f.value := by
  induction fs generalizing top with
  | nil => simp
  | cons f fs ih =>
    obtain ⟨hfit, hfits⟩ := List.forall_mem_cons.mp hf
    obtain ⟨rfl, ⟨rfl, _⟩ | ⟨hpos, hle, hrest⟩⟩ := coversFrom_cons.mp hc
    · exact List.forall_mem_singleton.mpr (slice_shiftLeft_or_same htop hfit (fitsIn_zero _))
    · have hlow := fitsIn_compose hrest hfits
      rw [Nat.sub_add_cancel hpos] at hlow
      refine List.forall_mem_cons.mpr ⟨slice_shiftLeft_or_same htop hfit hlow, fun g hg => ?_⟩
      have hbelow := hi_le_of_coversFrom hrest g hg
      rw [compose_cons, slice_shiftLeft_or_below (by omega) (by omega)]
      exact ih (by omega) hrest hfits g hg

/-! The fields of the register rows -/

theorem rowFields_cover (i : Instr) (h : i ≠ .cpuid) (v : Snapshot) : coversFrom 31 (rowFields i v) = true := by
  cases i with
  | cpuid => exact absurd rfl h
  | _ => rfl

/-- Only a field built by `reservedField` has the source "Reserved.", and its value is 0 (D6). -/
theorem rowFields_reserved_zero (i : Instr) (v : Snapshot) :
    ∀ f ∈ rowFields i v, f.source = .reserved → f.value = 0#32 := by
  have htest : (rowFields i v).all (fun f => f.source != .reserved || f.value == 0#32) = true := by cases i <;> rfl
  intro f hf hsrc
  simpa [hsrc] using List.all_eq_true.mp htest f hf

/-! The value of a field, by where it comes from -/

@[simp] theorem reservedField_fits (hi lo : Nat) : (reservedField hi lo).Fits := fitsIn_zero _

/-- A field of printed digits fits where the digits do. -/
@[simp] theorem fixedField_fits_iff (hi lo : Nat) (name : String) (c : Nat) :
    (fixedField hi lo name (BitVec.ofNat 32 c)).Fits ↔ c % 2 ^ 32 < 2 ^ (hi + 1 - lo) := fitsIn_ofNat_iff c _
@[simp] theorem plainField_fits_iff (hi lo : Nat) (name : String) (c : Nat) :
    (plainField hi lo name (BitVec.ofNat 32 c)).Fits ↔ c % 2 ^ 32 < 2 ^ (hi + 1 - lo) := fitsIn_ofNat_iff c _

/-- A field of one bit holds one Boolean. -/
@[simp] theorem paramField_bit_fits (n : Nat) (name : String) (b : Bool) : (paramField n n name (bit b)).Fits :=
  fitsIn_bit b (by simp [paramField])
@[simp] theorem inputField_bit_fits (n : Nat) (name : String) (b : Bool) : (inputField n n name (bit b)).Fits :=
  fitsIn_bit b (by simp [inputField])

/-- A narrower value, zero-extended, fits a field of its own width. -/
@[simp] theorem paramField_zext_fits {m hi lo : Nat} (name : String) (x : BitVec m) (h : m ≤ hi + 1 - lo) :
    (paramField hi lo name (zext x)).Fits := fitsIn_zext x h
@[simp] theorem inputField_zext_fits {m hi lo : Nat} (name : String) (x : BitVec m) (h : m ≤ hi + 1 - lo) :
    (inputField hi lo name (zext x)).Fits := fitsIn_zext x h

/-- Any word fits a field of the whole register. -/
@[simp] theorem paramField_word_fits (name : String) (w : Word) : (paramField 31 0 name w).Fits := fitsIn_word w
@[simp] theorem inputField_word_fits (name : String) (w : Word) : (inputField 31 0 name w).Fits := fitsIn_word w
@[simp] theorem volatileField_word_fits (name : String) (w : Word) : (volatileField 31 0 name w).Fits := fitsIn_word w

/-- Fields whose values are all written out fit where a test of the digits says so. -/
theorem fits_of_test {fs : List Field} (h : fs.all (fun f => decide (f.value.toNat < 2 ^ (f.hi + 1 - f.lo))) = true) :
    ∀ f ∈ fs, f.Fits := fun f hf =>
  (of_decide_eq_true (List.all_eq_true.mp h f hf) :)

/-- No field of a row holds more than its bits: the rows that follow a parameter or an input by the widths of these, the
others by their printed digits. -/
theorem rowFields_fit (i : Instr) (v : Snapshot) : ∀ f ∈ rowFields i v, f.Fits := by
  cases i with
  | fn00000001_EAX | fn00000001_EBX | fn00000001_ECX | fn00000001_EDX =>
    simp [rowFields, fields_fn00000001_EAX, fields_fn00000001_EBX, fields_fn00000001_ECX, fields_fn00000001_EDX]
  | fn0000000D_EBX_x00 | fn0000000D_ECX_x00 | fn0000000D_EBX_x01 =>
    simp [rowFields, fields_fn0000000D_EBX_x00, fields_fn0000000D_ECX_x00, fields_fn0000000D_EBX_x01]
  | fn80000001_EAX | fn80000001_EBX | fn80000001_ECX | fn80000001_EDX =>
    simp [rowFields, fields_fn80000001_EAX, fields_fn80000001_EBX, fields_fn80000001_ECX, fields_fn80000001_EDX]
  | fn80000002_EAX | fn80000002_EBX | fn80000002_ECX | fn80000002_EDX =>
    simp [rowFields, fields_fn80000002_EAX, fields_fn80000002_EBX, fields_fn80000002_ECX, fields_fn80000002_EDX]
  | fn80000003_EAX | fn80000003_EBX | fn80000003_ECX | fn80000003_EDX =>
    simp [rowFields, fields_fn80000003_EAX, fields_fn80000003_EBX, fields_fn80000003_ECX, fields_fn80000003_EDX]
  | fn80000004_EAX | fn80000004_EBX | fn80000004_ECX | fn80000004_EDX =>
    simp [rowFields, fields_fn80000004_EAX, fields_fn80000004_EBX, fields_fn80000004_ECX, fields_fn80000004_EDX]
  | fn80000006_EAX | fn80000006_EBX | fn80000006_EDX =>
    simp [rowFields, fields_fn80000006_EAX, fields_fn80000006_EBX, fields_fn80000006_EDX]
  | fn80000007_EBX | fn80000008_ECX | fn8000000A_EBX =>
    simp [rowFields, fields_fn80000007_EBX, fields_fn80000008_ECX, fields_fn8000000A_EBX]
  | fn8000001D_EAX_x00 | fn8000001D_EAX_x01 | fn8000001D_EAX_x02 | fn8000001D_EAX_x03 | fn8000001D_ECX_x03 =>
    simp [rowFields, fields_fn8000001D_EAX_x00, fields_fn8000001D_EAX_x01, fields_fn8000001D_EAX_x02,
      fields_fn8000001D_EAX_x03, fields_fn8000001D_ECX_x03]
  | fn8000001E_EAX | fn8000001E_EBX | fn8000001E_ECX | fn8000001F_EDX =>
    simp [rowFields, fields_fn8000001E_EAX, fields_fn8000001E_EBX, fields_fn8000001E_ECX, fields_fn8000001F_EDX]
  | _ => exact fits_of_test rfl

/-- Each field of a row reads back from the OR of the row's fields. -/
theorem rowFields_read_back (i : Instr) (h : i ≠ .cpuid) (v : Snapshot) :
    ∀ f ∈ rowFields i v, slice (compose (rowFields i v)) f.hi f.lo = f.value :=
  slice_compose (by decide) (rowFields_cover i h v) (rowFields_fit i v)

/-! Rows that an override could replace or clear -/

/-- A bit of a register, read as the field of one bit that stands there. -/
theorem getLsbD_of_slice_eq_one {w : Word} {n : Nat} (hn : n < 32) (h : slice w n n = 1#32) : w.getLsbD n = true := by
  simpa [h, hn] using (getLsbD_slice w n n 0 hn).symm

theorem value_fn80000001_ECX_of_noOverride {v : Snapshot} (hov : v.ov = Overrides.none) :
    value_fn80000001_ECX v = compose (rowFields .fn80000001_ECX v) := by
  rw [value_fn80000001_ECX, hov]
  rfl

theorem svmReported_of_noOverride {v : Snapshot} (hov : v.ov = Overrides.none) : v.svmReported = true := by
  have hmem : fixedField 2 2 "SVM" 0x1#32 ∈ rowFields .fn80000001_ECX v := by simp [rowFields, fields_fn80000001_ECX]
  rw [Snapshot.svmReported, value_fn80000001_ECX_of_noOverride hov]
  exact getLsbD_of_slice_eq_one (by decide) (rowFields_read_back .fn80000001_ECX (by decide) v _ hmem)

theorem topologyReported_of_noOverride {v : Snapshot} (hov : v.ov = Overrides.none) : v.topologyReported = true := by
  have hmem : fixedField 22 22 "TopologyExtensions" 0x1#32 ∈ rowFields .fn80000001_ECX v := by
    simp [rowFields, fields_fn80000001_ECX]
  rw [Snapshot.topologyReported, value_fn80000001_ECX_of_noOverride hov]
  exact getLsbD_of_slice_eq_one (by decide) (rowFields_read_back .fn80000001_ECX (by decide) v _ hmem)

/-- With no override written, the value of a row is the OR of its fields (R105): the five registers of R27 are not replaced,
and the registers of R110 are listed. -/
theorem rowValue_of_noOverride (i : Instr) {v : Snapshot} (hov : v.ov = Overrides.none) :
    rowValue i v = compose (rowFields i v) := by
  cases i with
  | fn00000001_ECX => rw [rowValue, value_fn00000001_ECX, hov]; rfl
  | fn00000001_EDX => rw [rowValue, value_fn00000001_EDX, hov]; rfl
  | fn00000006_ECX => rw [rowValue, value_fn00000006_ECX, hov]; rfl
  | fn80000001_ECX => exact value_fn80000001_ECX_of_noOverride hov
  | fn80000001_EDX => rw [rowValue, value_fn80000001_EDX, hov]; rfl
  | fn8000000A_EAX | fn8000000A_EBX | fn8000000A_EDX => exact if_pos (svmReported_of_noOverride hov)
  | fn8000001D_EAX_x00 | fn8000001D_EAX_x01 | fn8000001D_EAX_x02 | fn8000001D_EAX_x03 | fn8000001D_EAX_x04
  | fn8000001D_EBX_x00 | fn8000001D_EBX_x01 | fn8000001D_EBX_x02 | fn8000001D_EBX_x03 | fn8000001D_EBX_x04
  | fn8000001D_ECX_x00 | fn8000001D_ECX_x01 | fn8000001D_ECX_x02 | fn8000001D_ECX_x03 | fn8000001D_ECX_x04
  | fn8000001D_EDX_x00 | fn8000001D_EDX_x01 | fn8000001D_EDX_x02 | fn8000001D_EDX_x03 | fn8000001D_EDX_x04
  | fn8000001E_EAX | fn8000001E_EBX | fn8000001E_ECX => exact if_pos (topologyReported_of_noOverride hov)
  | _ => rfl

/-- Settles O27: from a cover whose fields fit their bits, each field reads back. -/
theorem fieldsCoverAndReadBack : Obligations.FieldsCoverAndReadBack := fun i v hi =>
  ⟨rowFields_cover i hi v, rowFields_reserved_zero i v, rowFields_read_back i hi v, rowValue_of_noOverride i⟩

end Sys2Proof.Machine
end

/-! PROOFS. The state: what a register reads (its fields, its replacement, the thread's own parameters and inputs), what a
step writes and leaves, and how a placed encoding runs. -/

namespace Sys2Proof.Machine

open Sys2Proof

/-! The value of a row, once for all rows -/

/-- The replacement of a row's register, where an override MSR was written (R27, R109). -/
def replacement (ov : Overrides) : Instr → Option Word
  | .fn00000001_ECX => ov.featureIdEcx
  | .fn00000001_EDX => ov.featureIdEdx
  | .fn00000006_ECX => ov.thermalPwrMgmtEcx
  | .fn80000001_ECX => ov.featureExtIdEcx
  | .fn80000001_EDX => ov.featureExtIdEdx
  | _ => none

/-- The feature register reports the feature under which the row's register is listed (R110). -/
def Snapshot.lists (v : Snapshot) : Instr → Bool
  | .fn8000000A_EAX | .fn8000000A_EBX | .fn8000000A_EDX => v.svmReported
  | .fn8000001D_EAX_x00 | .fn8000001D_EAX_x01 | .fn8000001D_EAX_x02 | .fn8000001D_EAX_x03 | .fn8000001D_EAX_x04
  | .fn8000001D_EBX_x00 | .fn8000001D_EBX_x01 | .fn8000001D_EBX_x02 | .fn8000001D_EBX_x03 | .fn8000001D_EBX_x04
  | .fn8000001D_ECX_x00 | .fn8000001D_ECX_x01 | .fn8000001D_ECX_x02 | .fn8000001D_ECX_x03 | .fn8000001D_ECX_x04
  | .fn8000001D_EDX_x00 | .fn8000001D_EDX_x01 | .fn8000001D_EDX_x02 | .fn8000001D_EDX_x03 | .fn8000001D_EDX_x04
  | .fn8000001E_EAX | .fn8000001E_EBX | .fn8000001E_ECX => v.topologyReported
  | _ => true

/-- The value of a register row: the OR of its fields (R105), or its replacement (R109), or `Unlisted` where the feature it
belongs to is reported as absent (R110). -/
theorem rowValue_eq_ite {i : Instr} {sel : Selector} (hs : i.selector = some sel) (v : Snapshot) :
    rowValue i v =
      if v.lists i then overridden (replacement v.ov i) (compose (rowFields i v)) else v.unlisted sel.out := by
  cases i with
  | cpuid => cases hs
  | _ => cases hs; rfl

theorem selector_eq_none_iff (i : Instr) : i.selector = none ↔ i = .cpuid := by
  refine ⟨fun h => ?_, fun h => h ▸ rfl⟩
  by_contra hi
  obtain ⟨sel, hs⟩ := selector_isSome i hi
  rw [h] at hs
  cases hs

theorem ne_cpuid_of_selector {i : Instr} {sel : Selector} (hs : i.selector = some sel) : i ≠ .cpuid := by
  rintro rfl
  cases hs

/-- A row whose selector accepts EAX_in and ECX_in completes and writes its value. -/
theorem rowWrites_of_ready {s : State} (h : s.Ready) {i : Instr} {fn : Word} {sub : Option Word} {out : Gpr}
    (hs : i.selector = some ⟨fn, sub, out⟩) : RowWrites s i fn sub out (rowValue i s.snapshot) := by
  intro hfn hsub
  have hacc : Selector.accepts ⟨fn, sub, out⟩ s.self.functionIn s.self.subleafIn = true := by
    cases sub with
    | none => simp [Selector.accepts, hfn]
    | some x => simp [Selector.accepts, hfn, hsub]
  rw [exec_row i (ne_cpuid_of_selector hs), execRow_of_ready h hs, if_pos hacc]

/-- A row whose register is replaced, and is not hidden by a feature reported as absent, writes the replacement. -/
theorem rowWrites_of_replacement {s : State} (h : s.Ready) {i : Instr} {fn w : Word} {sub : Option Word} {out : Gpr}
    (hs : i.selector = some ⟨fn, sub, out⟩) (hl : s.snapshot.lists i = true)
    (hov : replacement s.self.overrides i = some w) : RowWrites s i fn sub out w := by
  have hval : rowValue i s.snapshot = w := by
    rw [rowValue_eq_ite hs, if_pos hl, State.snapshot_ov, hov, overridden_some]
  exact hval ▸ rowWrites_of_ready h hs

/-- Settles O25: none of the five is among the registers R110 lists under a feature. -/
theorem overrideReplacesRegister : Obligations.OverrideReplacesRegister := fun _ _ h =>
  ⟨rowWrites_of_replacement (i := .fn00000001_ECX) h rfl rfl, rowWrites_of_replacement (i := .fn00000001_EDX) h rfl rfl,
    rowWrites_of_replacement (i := .fn80000001_ECX) h rfl rfl, rowWrites_of_replacement (i := .fn80000001_EDX) h rfl rfl,
    rowWrites_of_replacement (i := .fn00000006_ECX) h rfl rfl⟩

/-! What the fields of a row read -/

/-- The operands and the key of the free value stand in no field. -/
theorem rowFields_of_operands (i : Instr) (v : Snapshot) (n : Nat) (fn sub : Word) :
    rowFields i { v with key := n, fn := fn, sub := sub } = rowFields i v := by cases i <;> rfl

/-- A row none of whose fields is printed over an input reads no input (R108). -/
theorem rowFields_of_no_input_field {i : Instr} {v : Snapshot}
    (h : (rowFields i v).all (fun f => f.source != .input) = true) (inp : Inputs) :
    rowFields i { v with inp := inp } = rowFields i v := by
  cases i with
  | fn00000001_ECX | fn00000001_EDX | fn0000000D_EBX_x00 | fn0000000D_EBX_x01 | fn80000001_ECX | fn80000001_EDX
  | fn80000002_EAX | fn80000002_EBX | fn80000002_ECX | fn80000002_EDX
  | fn80000003_EAX | fn80000003_EBX | fn80000003_ECX | fn80000003_EDX
  | fn80000004_EAX | fn80000004_EBX | fn80000004_ECX | fn80000004_EDX
  | fn8000000A_EBX | fn8000001E_EAX => cases h
  | _ => rfl

/-- With no override written, a listed value follows the parameters and inputs alone. -/
theorem rowValue_of_operands (i : Instr) {v : Snapshot} (hov : v.ov = Overrides.none) (n : Nat) (fn sub : Word) :
    rowValue i { v with key := n, fn := fn, sub := sub } = rowValue i v := by
  rw [rowValue_of_noOverride i hov, rowValue_of_noOverride i (v := { v with key := n, fn := fn, sub := sub }) hov,
    rowFields_of_operands]

theorem rowValue_of_no_input_field {i : Instr} {v : Snapshot} (hov : v.ov = Overrides.none)
    (h : (rowFields i v).all (fun f => f.source != .input) = true) (inp : Inputs) :
    rowValue i { v with inp := inp } = rowValue i v := by
  rw [rowValue_of_noOverride i hov, rowValue_of_noOverride i (v := { v with inp := inp }) hov,
    rowFields_of_no_input_field h]

/-! The volatile registers -/

/-- The access type "Read-only,Volatile" stands on three registers (R31). -/
theorem printedAccess_eq_volatile_iff (i : Instr) : printedAccess i = .readOnlyVolatile ↔
    i = .fn0000000D_EBX_x00 ∨ i = .fn0000000D_EBX_x01 ∨ i = .fn8000000A_EBX := by
  constructor
  · intro h
    cases i with
    | fn0000000D_EBX_x00 | fn0000000D_EBX_x01 | fn8000000A_EBX => simp
    | _ => cases h
  · rintro (rfl | rfl | rfl) <;> rfl

/-- A register that is one field of 32 bits has the field's value. -/
theorem compose_singleton {f : Field} (h : f.lo = 0) : compose [f] = f.value := by simp [h]

theorem rowValue_fn0000000D_EBX_x00 (v : Snapshot) :
    rowValue .fn0000000D_EBX_x00 v = if v.inp.xcr0Avx then 0x340#32 else 0x240#32 := compose_singleton rfl

theorem rowValue_fn0000000D_EBX_x01 (v : Snapshot) :
    rowValue .fn0000000D_EBX_x01 v = if v.inp.xcr0Avx then 0x340#32 else 0x240#32 := compose_singleton rfl

theorem rowValue_fn8000000A_EBX {v : Snapshot} (hov : v.ov = Overrides.none) :
    rowValue .fn8000000A_EBX v = v.inp.nasid :=
  (rowValue_of_noOverride .fn8000000A_EBX hov).trans (compose_singleton rfl)

/-- Settles O35: with no override a value is the OR of its fields, and a field holds no operand and no key. -/
theorem onlyInputFedRegistersVary : Obligations.OnlyInputFedRegistersVary := by
  refine ⟨fun i v inp n fn sub _ hov h => ?_, printedAccess_eq_volatile_iff, fun v hov => ⟨?_, ?_, ?_, ?_, ?_⟩⟩
  · have hinp : rowValue i { v with inp := inp } = rowValue i v := by
      obtain hfields | rfl := h
      · exact rowValue_of_no_input_field hov hfields inp
      · rfl
    exact (rowValue_of_operands i (v := { v with inp := inp }) hov n fn sub).trans hinp
  · exact rowValue_fn0000000D_EBX_x00 _
  · exact rowValue_fn0000000D_EBX_x00 _
  · exact rowValue_fn0000000D_EBX_x01 _
  · exact rowValue_fn0000000D_EBX_x01 _
  · exact rowValue_fn8000000A_EBX hov

/-- The one input with a printed reset has it on every thread (R372). -/
theorem reset_hart_nasid (t : ThreadId) : (State.reset.hart t).inputs.nasid = 0x00008000#32 := by
  have hall : ∀ i : Fin 16, (State.reset.harts.get i).inputs.nasid = 0x00008000#32 := by decide
  exact hall t.index

/-- Settles O47: at reset no override is written, so the register holds the thread's NASID. -/
theorem resetOfNasid : Obligations.ResetOfNasid :=
  ⟨reset_hart_nasid, (rowValue_fn8000000A_EBX rfl).trans (reset_hart_nasid State.reset.current)⟩

/-! The parameter of a core -/

/-- Both threads of a core have one entry in the table of cores (R20). -/
theorem dcSharing_same_core (p : Params) (l : Fin 2) (c : Fin 4) (h h' : Fin 2) :
    p.dcSharing ⟨l, c, h⟩ = p.dcSharing ⟨l, c, h'⟩ := rfl

/-- Settles O34: the one field that follows a parameter follows one of the core. -/
theorem threadsOfOneCoreShareCacheProperties : Obligations.ThreadsOfOneCoreShareCacheProperties := by
  intro v l c h h' hov
  rw [rowValue_of_noOverride _ (v := { v with t := ⟨l, c, h⟩ }) hov,
    rowValue_of_noOverride _ (v := { v with t := ⟨l, c, h'⟩ }) hov]
  simp only [rowFields, fields_fn8000001D_EAX_x00, dcSharing_same_core v.p l c h h']

/-! The snapshot and the outputs of one execution -/

/-- An output with a register is the value of that register. -/
theorem Snapshot.leafOutput_of_listed {v : Snapshot} {out : Gpr} {i : Instr}
    (h : decodePoint ⟨v.fn, v.sub, out⟩ = some i) : v.leafOutput out = rowValue i v := by
  simp [Snapshot.leafOutput, h]

/-- With no override written, an output with a register does not depend on the key of the free value. -/
theorem Snapshot.leafOutput_of_key {v : Snapshot} (hov : v.ov = Overrides.none) {out : Gpr}
    (h : (decodePoint ⟨v.fn, v.sub, out⟩).isSome = true) (n : Nat) :
    ({ v with key := n } : Snapshot).leafOutput out = v.leafOutput out := by
  obtain ⟨i, hi⟩ := Option.isSome_iff_exists.mp h
  rw [Snapshot.leafOutput_of_listed hi, Snapshot.leafOutput_of_listed (v := { v with key := n }) hi]
  exact rowValue_of_operands i hov n v.fn v.sub

@[simp] theorem Hart.functionIn_withOperands (h : Hart) (fn sub : Word) :
    ((h.writeGpr .eax fn).writeGpr .ecx sub).functionIn = fn := by simp [Hart.functionIn]

@[simp] theorem Hart.subleafIn_withOperands (h : Hart) (fn sub : Word) :
    ((h.writeGpr .eax fn).writeGpr .ecx sub).subleafIn = sub := by simp [Hart.subleafIn]

/-! The state after `CPUID` -/

/-- What `CPUID` makes of a ready state. -/
def State.afterCpuid (s : State) : State := s.setSelf (s.self.afterCpuid s.snapshot)

theorem exec_cpuid_eq_afterCpuid {s : State} (h : s.Ready) : exec .cpuid s = .next s.afterCpuid := exec_cpuid_of_ready h

@[simp] theorem State.afterCpuid_gpr (s : State) (out : Gpr) : s.afterCpuid.self.gpr out = s.snapshot.leafOutput out := by
  simp [State.afterCpuid]

@[simp] theorem State.afterCpuid_pc (s : State) :
    s.afterCpuid.self.pc = advancePc s.params.pcWidth s.self.pc 2 := by simp [State.afterCpuid]

/-- With the operands put back, the state after `CPUID` takes the snapshot of the state before, but for the key of the free
value. -/
theorem State.snapshot_afterCpuid_withOperands (s : State) :
    (s.afterCpuid.setSelf ((s.afterCpuid.self.writeGpr .eax s.self.functionIn).writeGpr .ecx s.self.subleafIn)).snapshot =
      { s.snapshot with key := s.snapshot.keyAfter } := by
  simp [State.afterCpuid, State.snapshot]

/-- Settles O36: only the key of the free value differs between the two snapshots, and no listed value reads it. -/
theorem repeatedCpuidReturnsTheSame : Obligations.RepeatedCpuidReturnsTheSame := by
  intro s hr hov
  refine ⟨_, _, exec_cpuid_eq_afterCpuid hr, exec_cpuid_eq_afterCpuid hr, fun out hlisted => ?_⟩
  rw [State.afterCpuid_gpr, State.afterCpuid_gpr, State.snapshot_afterCpuid_withOperands]
  exact Snapshot.leafOutput_of_key (v := s.snapshot) hov hlisted _

/-! The environment's move -/

theorem Inputs.change_procNameString (i : Inputs) (ch : InputChange) (n : Fin 6) (k : Fin 8) :
    ((i.change ch).procNameString.get n).get k =
      (match ch with
      | .procNameByte n' k' b => if n = n' ∧ k = k' then b else (i.procNameString.get n).get k
      | _ => (i.procNameString.get n).get k) := by
  cases ch with
  | procNameByte n' k' b =>
    by_cases hn : n = n'
    · subst hn
      by_cases hk : k = k'
      · subst hk
        simp [Inputs.change, Vector.get_eq_getElem]
      · have hk' : k'.val ≠ k.val := fun he => hk (Fin.ext he).symm
        simp [Inputs.change, Vector.get_eq_getElem, hk, hk']
    · have hn' : n'.val ≠ n.val := fun he => hn (Fin.ext he).symm
      simp [Inputs.change, Vector.get_eq_getElem, hn, hn']
  | _ => rfl

/-- Settles O40: the step is the scheduled change, which replaces the inputs of one thread. -/
theorem environmentChangesOneInput : Obligations.EnvironmentChangesOneInput := by
  intro s t ch ms hp ha
  have hinputs : (State.changeInput { s with agenda := ms } t ch).hart t =
      { s.hart t with inputs := (s.hart t).inputs.change ch } := State.hart_changeInput_same _ t ch
  refine ⟨_, step_of_change hp ha, rfl, rfl, rfl, rfl, fun w hw => State.hart_changeInput_ne _ ch hw, ?_⟩
  rw [hinputs]
  exact ⟨fun r => by cases r <;> rfl, rfl, rfl, rfl, rfl, Inputs.change_osxsave _ ch, Inputs.change_monMwaitDis _ ch,
    Inputs.change_apicEn _ ch, Inputs.change_xcr0Avx _ ch, Inputs.change_apicId _ ch, Inputs.change_nasid _ ch,
    Inputs.change_procNameString _ ch⟩

/-! What a step leaves as it is -/

/-- Replacing a thread by one with its overrides and flags leaves those of every thread as they were. -/
theorem State.setHart_keeps_overrides_rflags {s : State} {t : ThreadId} {h : Hart}
    (ho : h.overrides = (s.hart t).overrides) (hf : h.rflags = (s.hart t).rflags) (u : ThreadId) :
    ((s.setHart t h).hart u).overrides = (s.hart u).overrides ∧ ((s.setHart t h).hart u).rflags = (s.hart u).rflags := by
  by_cases hu : u = t
  · subst hu
    simpa using ⟨ho, hf⟩
  · simp [hu]

/-- A thread's turn is a replacement of the executing thread by one with its overrides and flags. -/
theorem runThread_keeps {s s' : State} (h : runThread s = .next s') : s'.params = s.params ∧ s'.mem = s.mem ∧
    ∀ u : ThreadId, (s'.hart u).overrides = (s.hart u).overrides ∧ (s'.hart u).rflags = (s.hart u).rflags := by
  obtain ⟨_, _, _, rfl⟩ := runThread_next h
  exact ⟨rfl, rfl, State.setHart_keeps_overrides_rflags rfl rfl⟩

/-- Settles O43: by the three things a step can do. -/
theorem nothingWritesTheConfiguration : Obligations.NothingWritesTheConfiguration := by
  intro s t h
  obtain ⟨_, ⟨_, hrun⟩ | ⟨u, rest, _, hrun⟩ | ⟨u, ch, rest, _, rfl⟩⟩ := step_next h
  · exact runThread_keeps hrun
  · exact runThread_keeps (s := { s with current := u, agenda := rest }) hrun
  · exact ⟨rfl, rfl, State.setHart_keeps_overrides_rflags (s := { s with agenda := rest }) rfl rfl⟩

/-! A program placed at pc -/

theorem advancePc_zero (w : PcWidth) (pc : QWord) : advancePc w pc 0 = wrapPc w pc := by simp [advancePc]

/-- The two bytes of an instruction stand at two addresses (R62). -/
theorem advancePc_one_ne_zero (w : PcWidth) (pc : QWord) : (advancePc w pc 1).toNat ≠ (advancePc w pc 0).toNat := by
  rw [advancePc_toNat, advancePc_toNat]
  cases w <;> simp only [pcBits] <;> omega

/-- The bytes at pc and pc + 1 are what the fetch finds. -/
theorem State.fetchBytes_of_two {s : State} {b0 b1 : Byte}
    (h0 : s.mem.readByte (advancePc s.params.pcWidth s.self.pc 0).toNat = some b0)
    (h1 : s.mem.readByte (advancePc s.params.pcWidth s.self.pc 1).toNat = some b1) : s.fetchBytes = [b0, b1] := by
  rw [advancePc_zero] at h0
  simp [State.fetchBytes, h0, h1]

theorem State.readByte_placeBytes_zero (s : State) (b0 b1 : Byte) :
    (s.placeBytes [b0, b1]).mem.readByte (advancePc s.params.pcWidth s.self.pc 0).toNat = some b0 :=
  Memory.readByte_writeByte_same _ _ _

theorem State.readByte_placeBytes_one (s : State) (b0 b1 : Byte) :
    (s.placeBytes [b0, b1]).mem.readByte (advancePc s.params.pcWidth s.self.pc 1).toNat = some b1 :=
  (Memory.readByte_writeByte_ne _ _ (advancePc_one_ne_zero _ _)).trans (Memory.readByte_writeByte_same _ _ _)

/-- Placing two bytes leaves every other address as it was. -/
theorem State.readByte_placeBytes_ne (s : State) (b0 b1 : Byte) {a : Nat}
    (h0 : a ≠ (advancePc s.params.pcWidth s.self.pc 0).toNat) (h1 : a ≠ (advancePc s.params.pcWidth s.self.pc 1).toNat) :
    (s.placeBytes [b0, b1]).mem.readByte a = s.mem.readByte a :=
  (Memory.readByte_writeByte_ne _ _ h0).trans (Memory.readByte_writeByte_ne _ _ h1)

/-! A point of the selector space, placed: the bytes of `CPUID`, and the operands in EAX and ECX -/

theorem State.placeCode_point_params (s : State) (p : Point) : (s.placeCode (.point p)).params = s.params := rfl
theorem State.placeCode_point_agenda (s : State) (p : Point) : (s.placeCode (.point p)).agenda = [] := rfl
theorem State.placeCode_point_mem (s : State) (p : Point) :
    (s.placeCode (.point p)).mem = (s.placeBytes [0x0F#8, 0xA2#8]).mem := rfl

theorem State.placeCode_point_self (s : State) (p : Point) :
    (s.placeCode (.point p)).self = (s.self.writeGpr .eax p.fn).writeGpr .ecx p.sub :=
  State.self_setSelf (s.placeBytes [0x0F#8, 0xA2#8]) _

theorem State.placeCode_point_pc (s : State) (p : Point) : (s.placeCode (.point p)).self.pc = s.self.pc := by
  simp [State.placeCode_point_self]

theorem State.placeCode_point_fn (s : State) (p : Point) : (s.placeCode (.point p)).snapshot.fn = p.fn := by
  simp [State.placeCode_point_self]

theorem State.placeCode_point_sub (s : State) (p : Point) : (s.placeCode (.point p)).snapshot.sub = p.sub := by
  simp [State.placeCode_point_self]

theorem State.fetchBytes_placeCode_point (s : State) (p : Point) :
    (s.placeCode (.point p)).fetchBytes = [0x0F#8, 0xA2#8] := by
  apply State.fetchBytes_of_two <;>
    rw [State.placeCode_point_mem, State.placeCode_point_params, State.placeCode_point_pc]
  · exact State.readByte_placeBytes_zero _ _ _
  · exact State.readByte_placeBytes_one _ _ _

/-- A point placed in a ready state: the next step is `CPUID` with the operands of the point. -/
theorem step_placeCode_point {s : State} (h : s.Ready) (p : Point) :
    step (s.placeCode (.point p)) = .next (s.placeCode (.point p)).afterCpuid :=
  calc step (s.placeCode (.point p))
    _ = runThread (s.placeCode (.point p)) := step_of_empty h.1 (State.placeCode_point_agenda s p)
    _ = exec .cpuid (s.placeCode (.point p)) := runThread_of_fetches_cpuid (State.fetchBytes_placeCode_point s p)
    _ = .next (s.placeCode (.point p)).afterCpuid := exec_cpuid_eq_afterCpuid h

/-- The point that encodes a row is the place of the row in the selector space (R82, R90, R101). -/
theorem decodePoint_selector {i : Instr} {sel : Selector} (hs : i.selector = some sel) :
    decodePoint ⟨sel.fn, sel.sub.getD 0#32, sel.out⟩ = some i := by
  cases i with
  | cpuid => cases hs
  | _ => cases hs; rfl

theorem encode_of_selector {i : Instr} {sel : Selector} (hs : i.selector = some sel) :
    encode i = .point ⟨sel.fn, sel.sub.getD 0#32, sel.out⟩ := by
  simp [encode, hs]

/-- Settles O42: the encoding is a point, whose operands select the row again. -/
theorem encodingPlacedAtPcRuns : Obligations.EncodingPlacedAtPcRuns := by
  intro s i sel hr hs
  rw [encode_of_selector hs]
  refine ⟨_, step_placeCode_point hr _, ?_, ?_, fun a h0 h1 => State.readByte_placeBytes_ne s _ _ h0 h1⟩
  · rw [State.afterCpuid_gpr]
    apply Snapshot.leafOutput_of_listed
    rw [State.placeCode_point_fn, State.placeCode_point_sub]
    exact decodePoint_selector hs
  · rw [State.afterCpuid_pc, State.placeCode_point_pc, State.placeCode_point_params]

/-! Everything an instruction does in a ready state -/

/-- The executing thread after an instruction: the four outputs of `CPUID`, or the one output of a selected row. -/
def Hart.after (i : Instr) (h : Hart) (v : Snapshot) : Hart :=
  match i.selector with
  | none => h.afterCpuid v
  | some sel => if sel.accepts v.fn v.sub then h.writeGpr sel.out (rowValue i v) else h

theorem Hart.after_cpuid (h : Hart) (v : Snapshot) : h.after .cpuid v = h.afterCpuid v := rfl

theorem Hart.after_row {i : Instr} {sel : Selector} (hs : i.selector = some sel) (h : Hart) (v : Snapshot) :
    h.after i v = if sel.accepts v.fn v.sub then h.writeGpr sel.out (rowValue i v) else h := by
  simp [Hart.after, hs]

/-- In a ready state an instruction completes, and all it does is to the executing thread. -/
theorem exec_eq_setSelf_after {s : State} (h : s.Ready) (i : Instr) :
    exec i s = .next (s.setSelf (s.self.after i s.snapshot)) := by
  by_cases hi : i = .cpuid
  · subst hi
    exact exec_cpuid_of_ready h
  · obtain ⟨sel, hs⟩ := selector_isSome i hi
    rw [exec_row i hi, execRow_of_ready h hs, Hart.after_row hs, State.snapshot_fn, State.snapshot_sub]
    split
    · rfl
    · exact congrArg _ (State.setHart_hart s s.current).symm

/-! Two snapshots with equal fields -/

/-- Of the snapshot, `CPUID` uses the four outputs, the width of pc and the next key of the free value. -/
theorem Hart.afterCpuid_congr {v v' : Snapshot} (hout : ∀ out, v'.leafOutput out = v.leafOutput out)
    (hw : v'.p.pcWidth = v.p.pcWidth) (hk : v'.keyAfter = v.keyAfter) (h : Hart) : h.afterCpuid v' = h.afterCpuid v := by
  simp only [Hart.afterCpuid, hout, hw, hk]

section
variable {v v' : Snapshot} (hfields : ∀ i, rowFields i v' = rowFields i v) (hov : v'.ov = v.ov)
  (hunlisted : ∀ out, v'.unlisted out = v.unlisted out)
include hfields hov

theorem value_fn80000001_ECX_congr : value_fn80000001_ECX v' = value_fn80000001_ECX v := by
  have hfld : fields_fn80000001_ECX v' = fields_fn80000001_ECX v := hfields .fn80000001_ECX
  rw [value_fn80000001_ECX, value_fn80000001_ECX, hov, hfld]

theorem Snapshot.lists_congr (i : Instr) : v'.lists i = v.lists i := by
  have hecx := value_fn80000001_ECX_congr hfields hov
  have hsvm : v'.svmReported = v.svmReported := congrArg (·.getLsbD 2) hecx
  have htop : v'.topologyReported = v.topologyReported := congrArg (·.getLsbD 22) hecx
  simp only [Snapshot.lists, hsvm, htop]

include hunlisted

/-- The fields, the overrides and the free value are all a register row reads. -/
theorem rowValue_congr (i : Instr) : rowValue i v' = rowValue i v := by
  by_cases hi : i = .cpuid
  · subst hi
    rfl
  · obtain ⟨sel, hs⟩ := selector_isSome i hi
    rw [rowValue_eq_ite hs, rowValue_eq_ite hs, Snapshot.lists_congr hfields hov, hov, hfields, hunlisted]

theorem Snapshot.leafOutput_congr (hfn : v'.fn = v.fn) (hsub : v'.sub = v.sub) (out : Gpr) :
    v'.leafOutput out = v.leafOutput out := by
  simp only [Snapshot.leafOutput, hfn, hsub, hunlisted, rowValue_congr hfields hov hunlisted]

end

/-! Parameters of other threads and cores -/

/-- The snapshot under other tables of threads and of cores (R20, R107). -/
def Snapshot.withInstances (v : Snapshot) (th : Vector ThreadParams 16) (dc : Vector (BitVec 12) 8) : Snapshot :=
  { v with p := { v.p with thread := th, numSharingCacheDC := dc } }

/-- `P.Threads` is not empty where one thread is known to be in it. -/
theorem threadsOk_of_present {p : Params} {t : ThreadId} (h : (p.threadParams t).present = true) : p.threadsOk = true := by
  by_contra hno
  have habsent := (threadsOk_eq_false_iff p).mp (Bool.eq_false_iff.mpr hno) t
  rw [h] at habsent
  cases habsent

/-- The two tables enter the checks of the configuration only through `P.Threads`. -/
theorem wellFormed_withTables {p : Params} {th : Vector ThreadParams 16} {dc : Vector (BitVec 12) 8}
    (h : p.wellFormed = true) (hth : Params.threadsOk { p with thread := th, numSharingCacheDC := dc } = true) :
    Params.wellFormed { p with thread := th, numSharingCacheDC := dc } = true := by
  simp only [Params.wellFormed, Bool.and_eq_true] at h ⊢
  exact ⟨h.1, hth⟩

section
variable {v : Snapshot} {th : Vector ThreadParams 16} {dc : Vector (BitVec 12) 8}
  (htp : (v.withInstances th dc).tp = v.tp)
  (hdc : (v.withInstances th dc).p.dcSharing v.t = v.p.dcSharing v.t)
include htp hdc

/-- Of the two tables, the fields read the entry of the thread and that of its core (R107). -/
theorem rowFields_withInstances (i : Instr) : rowFields i (v.withInstances th dc) = rowFields i v := by
  cases i with
  | fn00000001_EBX => simp only [rowFields, fields_fn00000001_EBX, htp]; rfl
  | fn8000001D_EAX_x00 => simp only [rowFields, fields_fn8000001D_EAX_x00]; rw [← hdc]; rfl
  | fn8000001D_EAX_x01 => simp only [rowFields, fields_fn8000001D_EAX_x01, htp]
  | fn8000001D_EAX_x02 => simp only [rowFields, fields_fn8000001D_EAX_x02, htp]
  | fn8000001D_EAX_x03 => simp only [rowFields, fields_fn8000001D_EAX_x03, htp]
  | fn8000001E_EBX => simp only [rowFields, fields_fn8000001E_EBX, htp]; rfl
  | fn8000001E_ECX => simp only [rowFields, fields_fn8000001E_ECX, htp]; rfl
  | _ => rfl

/-- An instruction leaves the executing thread the same whatever the entries of other threads and cores are. -/
theorem Hart.after_withInstances (i : Instr) (h : Hart) : h.after i (v.withInstances th dc) = h.after i v := by
  have hfields := rowFields_withInstances htp hdc
  have hleaf := Snapshot.leafOutput_congr hfields rfl (fun _ => rfl) rfl rfl
  have hrow := rowValue_congr hfields rfl (fun _ => rfl)
  cases hs : i.selector with
  | none =>
    rw [(selector_eq_none_iff i).mp hs, Hart.after_cpuid, Hart.after_cpuid]
    exact Hart.afterCpuid_congr hleaf rfl rfl h
  | some sel =>
    rw [Hart.after_row hs, Hart.after_row hs, hrow]
    rfl

end

/-- Settles O48: the second state takes the snapshot of the first, but for the entries of other threads and cores. -/
theorem threadReadsItsOwnInstance : Obligations.ThreadReadsItsOwnInstance := by
  intro s s' i hr hcur hself hp htp hdc
  have hsnap : s'.snapshot = s.snapshot.withInstances s'.params.thread s'.params.numSharingCacheDC := by
    rw [State.snapshot, hcur, hself]
    exact congrArg (fun p => ({ s.snapshot with p := p } : Snapshot)) hp
  have htp' : (s.snapshot.withInstances s'.params.thread s'.params.numSharingCacheDC).tp = s.snapshot.tp := by
    rw [← hsnap, Snapshot.tp, State.snapshot_p, State.snapshot_t, hcur, htp]
    rfl
  have hdc' : (s.snapshot.withInstances s'.params.thread s'.params.numSharingCacheDC).p.dcSharing s.current =
      s.params.dcSharing s.current := by
    rw [← hsnap, State.snapshot_p, hdc]
  have hr' : s'.Ready := by
    have hpresent : (s'.params.threadParams s.current).present = true := htp ▸ hr.2
    have hthreads := threadsOk_of_present hpresent
    refine ⟨?_, hcur ▸ hpresent⟩
    rw [hp] at hthreads ⊢
    exact wellFormed_withTables hr.1 hthreads
  refine ⟨_, _, exec_eq_setSelf_after hr i, exec_eq_setSelf_after hr' i, ?_⟩
  rw [State.self_setSelf, State.self_setSelf, hself, hsnap]
  exact Hart.after_withInstances htp' hdc' i s.self

end Sys2Proof.Machine

/-! PROOFS. Fetch and strings: the turns of threads run in any order, an instruction is run by the step that decodes it, a
register row run alone writes one register at most, and the bytes of the strings stand in register order. -/

namespace Sys2Proof.Machine

open Sys2Proof

/-! One turn of one thread -/

/-- The state in which thread `t` has its turn. -/
def State.atTurn (s : State) (t : ThreadId) : State := { s with current := t }

@[simp] theorem State.atTurn_params (s : State) (t : ThreadId) : (s.atTurn t).params = s.params := rfl
@[simp] theorem State.atTurn_mem (s : State) (t : ThreadId) : (s.atTurn t).mem = s.mem := rfl
@[simp] theorem State.atTurn_current (s : State) (t : ThreadId) : (s.atTurn t).current = t := rfl
@[simp] theorem State.atTurn_self (s : State) (t : ThreadId) : (s.atTurn t).self = s.hart t := rfl

/-- What thread `t` fetches follows the configuration, the program and the thread's own pc (R60, R67). -/
theorem State.fetchBytes_atTurn_congr {s s' : State} {t : ThreadId} (hp : s'.params = s.params) (hm : s'.mem = s.mem)
    (hh : s'.hart t = s.hart t) : (s'.atTurn t).fetchBytes = (s.atTurn t).fetchBytes := by
  simp only [State.fetchBytes, State.atTurn_params, State.atTurn_mem, State.atTurn_self, hp, hm, hh]

/-- Thread `t` after its turn. -/
def State.turnHart (s : State) (t : ThreadId) : Hart := (s.hart t).afterCpuid (s.atTurn t).snapshot

/-- A turn computes from the configuration and the thread itself, and from no other thread (R67, R107). -/
theorem State.turnHart_congr {s s' : State} {t : ThreadId} (hp : s'.params = s.params) (hh : s'.hart t = s.hart t) :
    s'.turnHart t = s.turnHart t := by
  simp only [State.turnHart, State.snapshot, State.atTurn_params, State.atTurn_current, State.atTurn_self, hp, hh]

/-- Thread `t` completes its turn: the configuration is legal, the thread exists, and `CPUID` stands at its pc. -/
def State.completesTurn (s : State) (t : ThreadId) : Bool :=
  s.params.wellFormed && (s.params.threadParams t).present && (s.atTurn t).fetchBytes == [0x0F#8, 0xA2#8]

/-- The state with the turn of thread `t` made; which thread is current does not matter here and stays. -/
def State.afterTurn (s : State) (t : ThreadId) : State := s.setHart t (s.turnHart t)

/-- The turn of thread `t`, where it completes. -/
def State.turn (s : State) (t : ThreadId) : Option State := if s.completesTurn t then some (s.afterTurn t) else none

theorem State.completesTurn_iff (s : State) (t : ThreadId) :
    s.completesTurn t = true ↔ (s.atTurn t).Ready ∧ (s.atTurn t).fetchBytes = [0x0F#8, 0xA2#8] := by
  simp [State.completesTurn, State.Ready]

/-- The fetch takes two bytes, so nothing is left after those of `CPUID`. -/
theorem State.fetchBytes_eq_of_cons {s : State} {b0 b1 : Byte} {rest : List Byte} (h : s.fetchBytes = b0 :: b1 :: rest) :
    s.fetchBytes = [b0, b1] := by
  have hlen := s.fetchBytes_length
  rw [h, List.length_cons, List.length_cons] at hlen
  rw [h, List.length_eq_zero_iff.mp (by omega : rest.length = 0)]

/-- `State.turn` is the model's turn of a thread, but for the field that says which thread moved last. -/
theorem runThread_atTurn_next_iff {s s' : State} {t : ThreadId} :
    runThread (s.atTurn t) = .next s' ↔ ∃ v, s.turn t = some v ∧ v.atTurn t = s' := by
  constructor
  · intro h
    obtain ⟨rest, hb, hr, rfl⟩ := runThread_next h
    exact ⟨_, if_pos ((s.completesTurn_iff t).mpr ⟨hr, State.fetchBytes_eq_of_cons hb⟩), rfl⟩
  · rintro ⟨v, hv, rfl⟩
    obtain ⟨hc, hv⟩ := Option.ite_none_right_eq_some.mp hv
    cases hv
    obtain ⟨hr, hb⟩ := (s.completesTurn_iff t).mp hc
    exact (runThread_of_fetches_cpuid hb).trans (exec_cpuid_of_ready hr)

/-! Turns of different threads -/

theorem State.hart_afterTurn_ne (s : State) {t u : ThreadId} (hne : u ≠ t) : (s.afterTurn t).hart u = s.hart u :=
  s.hart_setHart_ne _ hne

/-- Whether a thread completes its turn does not depend on another thread's turn. -/
theorem State.completesTurn_afterTurn_ne (s : State) {t u : ThreadId} (hne : u ≠ t) :
    (s.afterTurn t).completesTurn u = s.completesTurn u := by
  have hfetch : ((s.afterTurn t).atTurn u).fetchBytes = (s.atTurn u).fetchBytes :=
    State.fetchBytes_atTurn_congr rfl rfl (s.hart_afterTurn_ne hne)
  rw [State.completesTurn, hfetch]
  rfl

theorem State.afterTurn_afterTurn_ne (s : State) {t u : ThreadId} (hne : u ≠ t) :
    (s.afterTurn t).afterTurn u = (s.setHart t (s.turnHart t)).setHart u (s.turnHart u) :=
  congrArg ((s.afterTurn t).setHart u) (State.turnHart_congr rfl (s.hart_afterTurn_ne hne))

/-- The turns of two threads write two threads, each what it would have written first. -/
theorem State.afterTurn_comm (s : State) {t u : ThreadId} (hne : t ≠ u) :
    (s.afterTurn t).afterTurn u = (s.afterTurn u).afterTurn t := by
  rw [s.afterTurn_afterTurn_ne hne.symm, s.afterTurn_afterTurn_ne hne, s.setHart_comm _ _ hne]

/-- Two threads' turns, one after the other, complete exactly if each would complete first. -/
theorem State.turn_bind_turn_ne (s : State) {t u : ThreadId} (hne : u ≠ t) : (s.turn t).bind (·.turn u) =
    if s.completesTurn t ∧ s.completesTurn u then some ((s.afterTurn t).afterTurn u) else none := by
  have hu := s.completesTurn_afterTurn_ne hne
  cases ht : s.completesTurn t with
  | false => simp [State.turn, ht]
  | true => simp [State.turn, ht, hu]

theorem State.turn_comm (s : State) (t u : ThreadId) : (s.turn t).bind (·.turn u) = (s.turn u).bind (·.turn t) := by
  by_cases hne : t = u
  · rw [hne]
  · simp only [s.turn_bind_turn_ne hne, s.turn_bind_turn_ne (Ne.symm hne), s.afterTurn_comm hne, and_comm]

/-- The turns of a list of threads, in order, where all of them complete. -/
def State.turns (s : State) (ts : List ThreadId) : Option State := ts.foldlM State.turn s

theorem State.turns_nil (s : State) : s.turns [] = some s := List.foldlM_nil
theorem State.turns_cons (s : State) (t : ThreadId) (ts : List ThreadId) :
    s.turns (t :: ts) = (s.turn t).bind (·.turns ts) := List.foldlM_cons

/-- Every interleaving of the same turns comes to the same, or to a refusal. -/
theorem State.turns_perm {ts us : List ThreadId} (h : ts.Perm us) (s : State) : s.turns ts = s.turns us := by
  induction h generalizing s with
  | nil => rfl
  | cons t _ ih => simp only [State.turns_cons, ih]
  | swap t u ts =>
    simp only [State.turns_cons, ← Option.bind_assoc]
    rw [s.turn_comm u t]
  | trans _ _ ih₁ ih₂ => rw [ih₁, ih₂]

/-! A schedule of turns -/

/-- The state with thread `c` current and these moves scheduled: the two fields that are the model's own (log 4). -/
def State.scheduled (s : State) (c : ThreadId) (ms : List Move) : State := { s with current := c, agenda := ms }

/-- The schedule plays no part in a turn. -/
theorem State.turn_scheduled (s : State) (c t : ThreadId) (ms : List Move) :
    (s.scheduled c ms).turn t = (s.turn t).map (·.scheduled c ms) := by
  rw [State.turn, State.turn, apply_ite (Option.map _)]
  rfl

theorem step_scheduled_run_next_iff {s s' : State} {c t : ThreadId} {ms : List Move} :
    step (s.scheduled c (.run t :: ms)) = .next s' ↔ ∃ v, s.turn t = some v ∧ v.scheduled t ms = s' := by
  have hturn : runThread ((s.scheduled c ms).atTurn t) = .next s' ↔ ∃ v, s.turn t = some v ∧ v.scheduled t ms = s' := by
    rw [runThread_atTurn_next_iff, State.turn_scheduled]
    simp only [Option.map_eq_some_iff, exists_exists_and_eq_and]
    rfl
  rw [← hturn]
  constructor
  · intro h
    exact (step_of_run (step_next h).1 rfl).symm.trans h
  · intro h
    obtain ⟨_, _, hr, _⟩ := runThread_next h
    exact (step_of_run (s := s.scheduled c (.run t :: ms)) hr.1 rfl).trans h

theorem stepN_succ_next_iff {s u : State} {n : Nat} :
    stepN (n + 1) s = .next u ↔ ∃ r, step s = .next r ∧ stepN n r = .next u :=
  ⟨stepN_succ_next, fun ⟨_, hstep, hrest⟩ => (stepN_succ n hstep).trans hrest⟩

/-- A schedule of runs makes the turns of its threads, and leaves the last of them current and nothing scheduled. -/
theorem stepN_scheduled_runs_next_iff {ts : List ThreadId} {s u : State} {c : ThreadId} :
    stepN ts.length (s.scheduled c (ts.map .run)) = .next u ↔
      ∃ v, s.turns ts = some v ∧ v.scheduled (ts.getLastD c) [] = u := by
  induction ts generalizing s c with
  | nil => simp [stepN_zero, State.turns_nil]
  | cons t ts ih =>
    calc stepN (ts.length + 1) (s.scheduled c (.run t :: ts.map .run)) = .next u
      _ ↔ ∃ r, (∃ v, s.turn t = some v ∧ v.scheduled t (ts.map .run) = r) ∧ stepN ts.length r = .next u := by
        simp only [stepN_succ_next_iff, step_scheduled_run_next_iff]
      _ ↔ ∃ v, s.turn t = some v ∧ stepN ts.length (v.scheduled t (ts.map .run)) = .next u := by
        simp only [exists_exists_and_eq_and]
      _ ↔ ∃ w, s.turns (t :: ts) = some w ∧ w.scheduled (ts.getLastD t) [] = u := by
        simp only [ih, State.turns_cons, Option.bind_eq_some_iff]
        grind
      _ ↔ ∃ w, s.turns (t :: ts) = some w ∧ w.scheduled ((t :: ts).getLastD c) [] = u := by rw [List.getLastD_cons]

/-- Settles O49: both schedules make the same turns, in different orders. -/
theorem threadsCommute : Obligations.ThreadsCommute := by
  intro s t ts us hperm h
  obtain ⟨v, hv, rfl⟩ := (stepN_scheduled_runs_next_iff (c := s.current)).mp h
  rw [State.turns_perm hperm] at hv
  exact ⟨_, (stepN_scheduled_runs_next_iff (c := s.current)).mpr ⟨v, hv, rfl⟩, fun _ => rfl, rfl, rfl, rfl, rfl⟩

/-! The step and the instruction it decodes -/

theorem runThread_of_decode {s : State} {i : Instr} {rest : List Byte} (h : decode s.fetchBytes = .ok (i, rest)) :
    runThread s = exec i s := by
  simp [runThread, h]

/-- Settles O37: a step is a turn, of the current or of the scheduled thread. -/
theorem stepRunsDecodedInstruction : Obligations.StepRunsDecodedInstruction := fun _ _ _ hp =>
  ⟨fun ha hd => (step_of_empty hp ha).trans (runThread_of_decode hd),
    fun _ _ ha hd => (step_of_run hp ha).trans (runThread_of_decode hd)⟩

/-! A register row run alone -/

/-- A row that completes leaves the thread as it is, or writes its value to its output register. -/
theorem exec_row_next {s t : State} {i : Instr} {sel : Selector} (hs : i.selector = some sel) (h : exec i s = .next t) :
    t = s ∨ t = s.writeOutput sel.out (rowValue i s.snapshot) := by
  obtain ⟨hr, _⟩ := exec_next h
  rw [exec_row i (ne_cpuid_of_selector hs), execRow_of_ready hr hs] at h
  split at h
  · exact .inr (Host.Outcome.next.inj h).symm
  · exact .inl (Host.Outcome.next.inj h).symm

/-- Settles O12: the row wrote nothing, or wrote its one output. -/
theorem rowFrame : Obligations.RowFrame := by
  intro s t i sel hs h
  obtain rfl | rfl := exec_row_next hs h
  · exact ⟨fun _ _ => rfl, rfl, rfl, rfl, rfl, rfl, ⟨rfl, rfl, rfl, rfl, fun _ _ => rfl⟩, fun _ => rfl, .inl rfl⟩
  · exact ⟨fun _ hne => by simp [hne], by simp, by simp, by simp, by simp, by simp, onlyThread_setSelf s _,
      fun _ => rfl, .inr (by simp)⟩

/-! Strings -/

/-- The low byte of a zero-extended byte is the byte. -/
theorem setWidth_zext_byte (b : Byte) : (zext b).setWidth 8 = b := by simp [zext]

/-- The fields of a register of string bytes, the lowest-numbered byte in bits 7:0 (R61). -/
def byteFields (n0 n1 n2 n3 : String) (b0 b1 b2 b3 : Byte) : List Field :=
  [inputField 31 24 n3 (zext b3), inputField 23 16 n2 (zext b2), inputField 15 8 n1 (zext b1), inputField 7 0 n0 (zext b0)]

/-- A register of string bytes gives them back, from bits 7:0 up. -/
theorem stringBytes_of_byteFields {w : Word} {n0 n1 n2 n3 : String} {b0 b1 b2 b3 : Byte}
    (h : w = compose (byteFields n0 n1 n2 n3 b0 b1 b2 b3)) : stringBytes w = [b0, b1, b2, b3] := by
  have hread := slice_compose (fs := byteFields n0 n1 n2 n3 b0 b1 b2 b3) (top := 31) (by decide) rfl (by simp [byteFields])
  rw [← h] at hread
  simp only [byteFields, List.forall_mem_cons, inputField] at hread
  obtain ⟨h3, h2, h1, h0, _⟩ := hread
  rw [stringBytes, h0, h1, h2, h3]
  simp only [setWidth_zext_byte]

theorem vendorString_authenticAMD : vendorString 0x68747541#32 0x444D4163#32 0x69746E65#32 =
    [0x41#8, 0x75#8, 0x74#8, 0x68#8, 0x65#8, 0x6E#8, 0x74#8, 0x69#8, 0x63#8, 0x41#8, 0x4D#8, 0x44#8] := by decide

/-- The registers of functions 0 and 8000_0000h that hold the vendor string are each one printed word (R132 to R134, R202 to
R204). -/
theorem rowValue_vendor (v : Snapshot) :
    (rowValue .fn00000000_EBX v = 0x68747541#32 ∧ rowValue .fn00000000_ECX v = 0x444D4163#32 ∧
      rowValue .fn00000000_EDX v = 0x69746E65#32) ∧
    (rowValue .fn80000000_EBX v = 0x68747541#32 ∧ rowValue .fn80000000_ECX v = 0x444D4163#32 ∧
      rowValue .fn80000000_EDX v = 0x69746E65#32) :=
  ⟨⟨compose_singleton rfl, compose_singleton rfl, compose_singleton rfl⟩,
    compose_singleton rfl, compose_singleton rfl, compose_singleton rfl⟩

/-- Settles O30: every register of the strings is one printed word or four bytes of an MSR, and gives its bytes back. -/
theorem stringsReadInOrder : Obligations.StringsReadInOrder := by
  intro v
  obtain ⟨⟨hb, hc, hd⟩, hb', hc', hd'⟩ := rowValue_vendor v
  refine ⟨by rw [hb, hc, hd, vendorString_authenticAMD], by rw [hb', hc', hd', vendorString_authenticAMD], ?_⟩
  simp only [namePart,
    stringBytes_of_byteFields (w := rowValue .fn80000002_EAX v) rfl,
    stringBytes_of_byteFields (w := rowValue .fn80000002_EBX v) rfl,
    stringBytes_of_byteFields (w := rowValue .fn80000002_ECX v) rfl,
    stringBytes_of_byteFields (w := rowValue .fn80000002_EDX v) rfl,
    stringBytes_of_byteFields (w := rowValue .fn80000003_EAX v) rfl,
    stringBytes_of_byteFields (w := rowValue .fn80000003_EBX v) rfl,
    stringBytes_of_byteFields (w := rowValue .fn80000003_ECX v) rfl,
    stringBytes_of_byteFields (w := rowValue .fn80000003_EDX v) rfl,
    stringBytes_of_byteFields (w := rowValue .fn80000004_EAX v) rfl,
    stringBytes_of_byteFields (w := rowValue .fn80000004_EBX v) rfl,
    stringBytes_of_byteFields (w := rowValue .fn80000004_ECX v) rfl,
    stringBytes_of_byteFields (w := rowValue .fn80000004_EDX v) rfl]
  rfl

end Sys2Proof.Machine

/-! PROOFS. Encoding: a code and its row determine each other in both layers, which selectors the leaf table lists, what
`CPUID` and a row alone write for a selector, and what the bytes that are not `CPUID` are refused by. -/

namespace Sys2Proof.Machine

open Sys2Proof

/-! The leaf table -/

/-- A row accepts by its function and, where its name has one, its subleaf, all bits of both (R82, R102). -/
theorem Selector.accepts_iff {sel : Selector} {fn sub : Word} :
    sel.accepts fn sub = true ↔ fn = sel.fn ∧ ∀ x, sel.sub = some x → sub = x := by
  obtain ⟨f, x, out⟩ := sel
  cases x <;> simp [Selector.accepts]

theorem Leaf.matches_iff {lf : Leaf} {fn sub : Word} :
    lf.matches fn sub = true ↔ fn = lf.fn ∧ ∀ x, lf.sub = some x → sub = x :=
  Selector.accepts_iff (sel := ⟨lf.fn, lf.sub, .eax⟩)

/-- The four output registers of an execution (R100). -/
def outputs : List Gpr := [.eax, .ebx, .ecx, .edx]

theorem mem_outputs (out : Gpr) : out ∈ outputs := by cases out <;> simp [outputs]

/-- A register stands in the table where its own name puts it: at its function, its subleaf and its output (R82, R101). -/
theorem selector_of_leafTable {lf : Leaf} (hlf : lf ∈ leafTable) {out : Gpr} {i : Instr} (hrow : lf.row out = some i) :
    i.selector = some ⟨lf.fn, lf.sub, out⟩ := by
  have htable : ∀ lf ∈ leafTable, ∀ out ∈ outputs, ∀ i ∈ lf.row out, i.selector = some ⟨lf.fn, lf.sub, out⟩ := by decide
  exact htable lf hlf out (mem_outputs out) i hrow

/-- Two leaves of one function both give a subleaf, and not the same one. -/
theorem leafTable_apart : ∀ a ∈ leafTable, ∀ b ∈ leafTable, a.fn = b.fn →
    a = b ∨ (a.sub.isSome = true ∧ b.sub.isSome = true ∧ a.sub ≠ b.sub) := by decide

/-- No two leaves match one execution (R101). -/
theorem leafTable_matches_unique {a b : Leaf} (ha : a ∈ leafTable) (hb : b ∈ leafTable) {fn sub : Word}
    (hma : a.matches fn sub = true) (hmb : b.matches fn sub = true) : a = b := by
  obtain ⟨hfa, hsa⟩ := Leaf.matches_iff.mp hma
  obtain ⟨hfb, hsb⟩ := Leaf.matches_iff.mp hmb
  obtain hab | ⟨hx, hy, hne⟩ := leafTable_apart a ha b hb (hfa.symm.trans hfb)
  · exact hab
  · obtain ⟨x, hx⟩ := Option.isSome_iff_exists.mp hx
    obtain ⟨y, hy⟩ := Option.isSome_iff_exists.mp hy
    exact absurd (by rw [hx, hy, ← hsa x hx, ← hsb y hy]) hne

/-! Points of the selector space -/

/-- A point reaches the register of a leaf that matches, in the column of its output. -/
theorem decodePoint_eq_row {lf : Leaf} (hlf : lf ∈ leafTable) {fn sub : Word} (hm : lf.matches fn sub = true) (out : Gpr) :
    decodePoint ⟨fn, sub, out⟩ = lf.row out := by
  obtain ⟨lf', hfind⟩ : ∃ lf', leafTable.find? (·.matches fn sub) = some lf' :=
    Option.isSome_iff_exists.mp (List.find?_isSome.mpr ⟨lf, hlf, hm⟩)
  have hm' : lf'.matches fn sub = true := by simpa using List.find?_some hfind
  rw [decodePoint, hfind, leafTable_matches_unique (List.mem_of_find?_eq_some hfind) hlf hm' hm, Option.bind_some]

/-- A point reaches a register exactly if it has the register's output and the register's selector accepts it (R82, R101). -/
theorem decodePoint_eq_some_iff {p : Point} {i : Instr} : decodePoint p = some i ↔
    ∃ sel, i.selector = some sel ∧ p.out = sel.out ∧ sel.accepts p.fn p.sub = true := by
  constructor
  · intro h
    obtain ⟨lf, hlf, hm, hrow⟩ := decodePoint_some h
    exact ⟨_, selector_of_leafTable hlf hrow, rfl, hm⟩
  · rintro ⟨sel, hs, hout, hacc⟩
    obtain ⟨lf, hlf, _, hrow⟩ := decodePoint_some (decodePoint_selector hs)
    have hsel : sel = ⟨lf.fn, lf.sub, sel.out⟩ := Option.some.inj (hs.symm.trans (selector_of_leafTable hlf hrow))
    rw [hsel] at hacc
    calc decodePoint p
      _ = lf.row p.out := decodePoint_eq_row hlf hacc p.out
      _ = some i := by rw [hout, hrow]

/-! Codes -/

@[simp] theorem decodeCode_point (p : Point) : decodeCode (.point p) = decodePoint p := rfl

/-- Of all byte strings the two bytes of `CPUID` alone are a code (R80, R86). -/
theorem decodeCode_bytes_eq_some_iff {bs : List Byte} {i : Instr} :
    decodeCode (.bytes bs) = some i ↔ i = .cpuid ∧ bs = [0x0F#8, 0xA2#8] := by
  rw [← decode_ok, decodeCode]
  split
  next j hd => simp [hd]
  next hd => exact iff_of_false nofun (hd i)

theorem decodeCode_eq_some_cpuid_iff {c : Code} : decodeCode c = some .cpuid ↔ c = .bytes [0x0F#8, 0xA2#8] := by
  cases c with
  | bytes bs => simp [decodeCode_bytes_eq_some_iff]
  | point p =>
    have hs : Instr.cpuid.selector = none := rfl
    simp [decodePoint_eq_some_iff, hs]

theorem decodeCode_eq_some_row_iff {i : Instr} {sel : Selector} (hs : i.selector = some sel) {c : Code} :
    decodeCode c = some i ↔ ∃ p, c = .point p ∧ p.out = sel.out ∧ sel.accepts p.fn p.sub = true := by
  cases c with
  | bytes bs => simp [decodeCode_bytes_eq_some_iff, ne_cpuid_of_selector hs]
  | point p => simp [decodePoint_eq_some_iff, hs]

theorem decodeCode_encode (i : Instr) : decodeCode (encode i) = some i := by
  by_cases hi : i = .cpuid
  · subst hi
    rfl
  · obtain ⟨sel, hs⟩ := selector_isSome i hi
    rw [encode_of_selector hs, decodeCode_point, decodePoint_selector hs]

/-- Settles O1: `CPUID` has the one code of its bytes, a register the points that its selector accepts. -/
theorem encodeDecodeAgree : Obligations.EncodeDecodeAgree := by
  refine fun i => ⟨decodeCode_encode i, fun c => ?_⟩
  split
  next hs =>
    rw [(selector_eq_none_iff i).mp hs]
    exact decodeCode_eq_some_cpuid_iff
  next sel hs => simp only [decodeCode_eq_some_row_iff hs, Selector.accepts_iff]

/-- Settles O6: by evaluation. -/
theorem sampleWordsDecode : Obligations.SampleWordsDecode :=
  ⟨rfl, rfl, rfl, rfl, rfl, rfl, rfl, rfl, rfl, rfl⟩

/-! Which selectors are listed -/

/-- The subleaves that the table gives for a function, `none` where its names carry no suffix. -/
def subleavesOf (fn : Word) : List (Option Word) := (leafTable.filter (·.fn == fn)).map Leaf.sub

/-- Every leaf has a register in the column EAX. -/
theorem exists_eax_of_leafTable {lf : Leaf} (hlf : lf ∈ leafTable) : ∃ i, lf.row .eax = some i := by
  have htable : ∀ lf ∈ leafTable, (lf.row .eax).isSome = true := by decide
  exact Option.isSome_iff_exists.mp (htable lf hlf)

/-- Where every leaf of a function gives a subleaf and all four registers, an output has a register exactly at one of these
subleaves, compared over all 32 bits (R103). -/
theorem decodePoint_isSome_iff_mem_subleavesOf {fn : Word}
    (hfull : ∀ lf ∈ leafTable, lf.fn = fn → lf.sub.isSome = true ∧ ∀ out ∈ outputs, (lf.row out).isSome = true)
    (sub : Word) (out : Gpr) : (decodePoint ⟨fn, sub, out⟩).isSome = true ↔ some sub ∈ subleavesOf fn := by
  simp only [subleavesOf, List.mem_map, List.mem_filter, beq_iff_eq]
  constructor
  · intro h
    obtain ⟨i, hi⟩ := Option.isSome_iff_exists.mp h
    obtain ⟨lf, hlf, hm, _⟩ := decodePoint_some hi
    obtain ⟨hfn, hsub⟩ := Leaf.matches_iff.mp hm
    obtain ⟨x, hx⟩ := Option.isSome_iff_exists.mp (hfull lf hlf hfn.symm).1
    exact ⟨lf, ⟨hlf, hfn.symm⟩, hx.trans (congrArg some (hsub x hx).symm)⟩
  · rintro ⟨lf, ⟨hlf, rfl⟩, hsub⟩
    have hm : lf.matches lf.fn sub = true := Leaf.matches_iff.mpr ⟨rfl, fun x hx => Option.some.inj (hsub.symm.trans hx)⟩
    rw [decodePoint_eq_row hlf hm]
    exact (hfull lf hlf rfl).2 out (mem_outputs out)

/-- Settles O4: the three functions whose names carry subleaves have all four registers at each of them. -/
theorem subleavesCompareAllBits : Obligations.SubleavesCompareAllBits := by
  intro sub out
  have h7 : subleavesOf 0x7#32 = [some 0#32] := rfl
  have hD : subleavesOf 0xD#32 = [some 0#32, some 1#32, some 2#32] := rfl
  have h1D : subleavesOf 0x8000001D#32 = [some 0#32, some 1#32, some 2#32, some 3#32, some 4#32] := rfl
  rw [decodePoint_isSome_iff_mem_subleavesOf (by decide), decodePoint_isSome_iff_mem_subleavesOf (by decide),
    decodePoint_isSome_iff_mem_subleavesOf (by decide), h7, hD, h1D]
  refine ⟨by simp, ?_, ?_⟩ <;> simp only [List.mem_cons, Option.some.injEq, List.not_mem_nil, or_false] <;> bv_omega

/-- A function has no register at all exactly if no leaf is of that function. -/
theorem decodePoint_eq_none_iff_fn {fn : Word} :
    (∀ (sub : Word) (out : Gpr), decodePoint ⟨fn, sub, out⟩ = none) ↔ fn ∉ leafTable.map Leaf.fn := by
  constructor
  · intro hnone hmem
    obtain ⟨lf, hlf, rfl⟩ := List.mem_map.mp hmem
    obtain ⟨i, hrow⟩ := exists_eax_of_leafTable hlf
    have hi := decodePoint_selector (selector_of_leafTable hlf hrow)
    rw [hnone] at hi
    cases hi
  · intro hmem sub out
    refine Option.eq_none_iff_forall_ne_some.mpr fun i hi => hmem ?_
    obtain ⟨lf, hlf, hm, _⟩ := decodePoint_some hi
    exact List.mem_map.mpr ⟨lf, hlf, (Leaf.matches_iff.mp hm).1.symm⟩

/-- Settles O5: the 23 functions are those of the leaves, each once. -/
theorem unlistedFunctionClasses : Obligations.UnlistedFunctionClasses := by
  intro fn
  rw [decodePoint_eq_none_iff_fn, ← List.mem_dedup]
  rfl

/-! One output: `CPUID`, and the row alone -/

/-- An output with no register is the free value (R104). -/
theorem Snapshot.leafOutput_of_unlisted {v : Snapshot} {out : Gpr} (h : decodePoint ⟨v.fn, v.sub, out⟩ = none) :
    v.leafOutput out = v.unlisted out := by
  simp [Snapshot.leafOutput, h]

@[simp] theorem State.afterCpuid_fullGpr (s : State) (out : Gpr) :
    s.afterCpuid.self.fullGpr out = (s.snapshot.leafOutput out).setWidth 64 := by
  simp [State.afterCpuid, Hart.afterCpuid_fullGpr]

/-- A register row alone, in a ready state: one write where its selector accepts, and nothing where it does not. -/
theorem exec_row_of_ready {s : State} (h : s.Ready) {i : Instr} {sel : Selector} (hs : i.selector = some sel) :
    exec i s = if sel.accepts s.self.functionIn s.self.subleafIn then .next (s.writeOutput sel.out (rowValue i s.snapshot))
      else .next s := by
  rw [exec_row i (ne_cpuid_of_selector hs), execRow_of_ready h hs]

/-- Settles O8: a row whose selector accepts is the row that its output reaches. -/
theorem cpuidIsItsSelectedRows : Obligations.CpuidIsItsSelectedRows := by
  intro s i sel hr hs hacc
  have hrow : exec i s = .next (s.writeOutput sel.out (rowValue i s.snapshot)) := by
    rw [exec_row_of_ready hr hs, if_pos hacc]
  have hleaf : s.snapshot.leafOutput sel.out = rowValue i s.snapshot :=
    Snapshot.leafOutput_of_listed (decodePoint_eq_some_iff.mpr ⟨sel, hs, rfl, hacc⟩)
  exact ⟨_, _, exec_cpuid_eq_afterCpuid hr, hrow, by simp [hleaf], by simp [hleaf]⟩

/-- Settles O9: the output without a register is `Unlisted` of the snapshot. -/
theorem unlistedOutputIsFree : Obligations.UnlistedOutputIsFree := by
  intro s out hr hnone
  refine ⟨_, exec_cpuid_eq_afterCpuid hr, s.afterCpuid_pc, ?_⟩
  rw [State.afterCpuid_gpr]
  exact Snapshot.leafOutput_of_unlisted (v := s.snapshot) hnone

/-- Settles O11: a row alone asks its selector before it writes. -/
theorem rowNotSelectedWritesNothing : Obligations.RowNotSelectedWritesNothing := by
  intro s i sel hr hs hacc
  simp [exec_row_of_ready hr hs, hacc]

/-! Bytes that are no instruction -/

/-- The refusal that bytes other than those of `CPUID` meet (R86, R87, log 16). -/
def refusalOfBytes : List Byte → Refusal
  | [] => .endOfProgram
  | b0 :: bs =>
    if b0 = 0x0F#8 ∧ bs = [] then .truncatedInstruction
    else if isPrefixByte b0 = true then .prefixedInstruction else .notAnInstruction

/-- At most two bytes that are not those of `CPUID` are rejected, by the name that stands for them. -/
theorem decode_of_ne_cpuid {bs : List Byte} (hlen : bs.length ≤ 2) (hne : bs ≠ [0x0F#8, 0xA2#8]) :
    ∃ r, decode bs = .error r ∧ rejection r = refusalOfBytes bs := by
  match bs with
  | [] => exact ⟨_, rfl, rfl⟩
  | [b0] =>
    by_cases h0 : b0 = 0x0F#8
    · exact ⟨.truncated, by simp [decode, h0], by simp [refusalOfBytes, h0, rejection]⟩
    · cases hpre : isPrefixByte b0 <;> simp [decode, refusalOfBytes, h0, hpre, rejection]
  | [b0, b1] =>
    have h01 : ¬(b0 = 0x0F#8 ∧ b1 = 0xA2#8) := fun ⟨h0, h1⟩ => hne (by rw [h0, h1])
    cases hpre : isPrefixByte b0 <;> simp [decode, refusalOfBytes, h01, hpre, rejection]

theorem runThread_of_reject {s : State} {r : DecodeReject} (h : decode s.fetchBytes = .error r) :
    runThread s = .refused (rejection r) := by
  simp [runThread, h]

/-- Settles O38: with nothing scheduled a step is the turn of the current thread, which decodes what it fetches. -/
theorem otherBytesAreRefused : Obligations.OtherBytesAreRefused := by
  intro s hp ha hne
  obtain ⟨r, hdec, hname⟩ := decode_of_ne_cpuid s.fetchBytes_length hne
  calc step s
    _ = runThread s := step_of_empty hp ha
    _ = .refused (rejection r) := runThread_of_reject hdec
    _ = .refused (refusalOfBytes s.fetchBytes) := by rw [hname]

end Sys2Proof.Machine

/-! PROOFS. The instruction `CPUID`: the leaf it looks up and the state it leaves, the registers it reads against their printed
resets, and what software computes from the values it returns. -/

namespace Sys2Proof.Machine

open Sys2Proof

/-! The leaf of one execution -/

/-- The leaf that matches an execution gives each of its outputs, in the column of the output (R101, R104). -/
theorem Snapshot.leafOutput_eq_column {lf : Leaf} (hlf : lf ∈ leafTable) {v : Snapshot}
    (hm : lf.matches v.fn v.sub = true) (out : Gpr) : v.leafOutput out = v.column out (lf.row out) := by
  have hpoint := decodePoint_eq_row hlf hm out
  cases hrow : lf.row out with
  | none => exact Snapshot.leafOutput_of_unlisted (hpoint.trans hrow)
  | some i => exact Snapshot.leafOutput_of_listed (hpoint.trans hrow)

theorem leafReads_of_leafTable {lf : Leaf} (hlf : lf ∈ leafTable) :
    LeafReads lf.fn lf.sub lf.eax lf.ebx lf.ecx lf.edx := by
  intro v hfn hsub
  have hcol := Snapshot.leafOutput_eq_column hlf (v := v) (Leaf.matches_iff.mpr ⟨hfn, hsub⟩)
  exact ⟨hcol .eax, hcol .ebx, hcol .ecx, hcol .edx⟩

/-- At most one leaf of the table matches an execution (R101). -/
theorem leafTable_filter_matches_length_le_one (fn sub : Word) :
    (leafTable.filter (·.matches fn sub)).length ≤ 1 := by
  have hnodup : (leafTable.filter (·.matches fn sub)).Nodup := List.Nodup.filter _ (by decide)
  rw [← List.toFinset_card_of_nodup hnodup, Finset.card_le_one]
  intro a ha b hb
  simp only [List.mem_toFinset, List.mem_filter] at ha hb
  exact leafTable_matches_unique ha.1 hb.1 ha.2 hb.2

/-- An execution that no leaf matches reaches no register (R104). -/
theorem decodePoint_eq_none_of_no_leaf {fn sub : Word} (h : ∀ lf ∈ leafTable, lf.matches fn sub = false) (out : Gpr) :
    decodePoint ⟨fn, sub, out⟩ = none := by
  refine Option.eq_none_iff_forall_ne_some.mpr fun i hi => ?_
  obtain ⟨lf, hlf, hm, _⟩ := decodePoint_some hi
  rw [h lf hlf] at hm
  cases hm

/-- Settles O2: each of the 29 parts is what a leaf of the table reads, in the order of the table. -/
theorem leafTableOfR101 : Obligations.LeafTableOfR101 := by
  have row (n : Fin 29) : LeafReads leafTable[n].fn leafTable[n].sub leafTable[n].eax leafTable[n].ebx leafTable[n].ecx
      leafTable[n].edx := leafReads_of_leafTable (List.getElem_mem _)
  exact ⟨row 0, row 1, row 2, row 3, row 4, row 5, row 6, row 7, row 8, row 9, row 10, row 11, row 12, row 13, row 14,
    row 15, row 16, row 17, row 18, row 19, row 20, row 21, row 22, row 23, row 24, row 25, row 26, row 27, row 28, rfl,
    leafTable_filter_matches_length_le_one,
    fun _ out h => Snapshot.leafOutput_of_unlisted (decodePoint_eq_none_of_no_leaf h out)⟩

/-- The leaves with a subleaf are those of three functions (R102). -/
theorem leafTable_sub_eq_none_or_suffixed : ∀ lf ∈ leafTable,
    lf.sub = none ∨ lf.fn = 0x7#32 ∨ lf.fn = 0xD#32 ∨ lf.fn = 0x8000001D#32 := by decide

/-- A leaf that gives no subleaf for a function matches it whatever ECX_in is (R102, D8). -/
theorem Leaf.matches_congr_sub {lf : Leaf} {fn : Word} (h : fn = lf.fn → lf.sub = none) (sub sub' : Word) :
    lf.matches fn sub = lf.matches fn sub' := by
  rw [Bool.eq_iff_iff, Leaf.matches_iff, Leaf.matches_iff]
  exact and_congr_right fun hfn => by simp [h hfn]

theorem decodePoint_of_no_suffix {fn : Word} (h7 : fn ≠ 0x7#32) (hD : fn ≠ 0xD#32) (h1D : fn ≠ 0x8000001D#32)
    (sub sub' : Word) (out : Gpr) : decodePoint ⟨fn, sub, out⟩ = decodePoint ⟨fn, sub', out⟩ := by
  have hmatch : ∀ lf ∈ leafTable, lf.matches fn sub = lf.matches fn sub' := fun lf hlf =>
    Leaf.matches_congr_sub (fun hfn => by simpa [← hfn, h7, hD, h1D] using leafTable_sub_eq_none_or_suffixed lf hlf) sub sub'
  simp only [decodePoint, List.find?_congr hmatch]

/-- The leaf of function 0000_000Bh (R155). -/
def extTopologyLeaf : Leaf :=
  ⟨0xB#32, none, some .fn0000000B_EAX, some .fn0000000B_EBX, some .fn0000000B_ECX, some .fn0000000B_EDX⟩

/-- Function 0000_000Bh reports no topology: its four registers read 0 (R156 to R159). -/
theorem column_extTopologyLeaf (v : Snapshot) (out : Gpr) : v.column out (extTopologyLeaf.row out) = 0#32 := by
  cases out <;> rfl

/-- Settles O3: a leaf without a subleaf does not look at ECX_in, and that of function Bh is one. -/
theorem subleafIgnoredWithoutSuffix : Obligations.SubleafIgnoredWithoutSuffix := by
  refine ⟨fun fn sub sub' out h7 hD h1D => decodePoint_of_no_suffix h7 hD h1D sub sub' out, fun v out hfn => ?_⟩
  have hm : extTopologyLeaf.matches v.fn v.sub = true := Leaf.matches_iff.mpr ⟨hfn, nofun⟩
  rw [Snapshot.leafOutput_eq_column (by decide) hm, column_extTopologyLeaf]

/-! The state `CPUID` leaves -/

/-- Settles O7: the state after `CPUID` differs in the executing thread alone, field by field as it is defined. -/
theorem cpuidCompletesWithLeaf : Obligations.CpuidCompletesWithLeaf := by
  intro s hr
  have hself : s.afterCpuid.self = s.self.afterCpuid s.snapshot := s.self_setSelf _
  refine ⟨_, exec_cpuid_eq_afterCpuid hr, s.afterCpuid_fullGpr, ?_, ?_, ?_, ?_, fun hl ho => ?_, onlyThread_setSelf s _,
    fun _ => rfl⟩
  · rw [State.afterCpuid_pc, advancePc_toNat]
  · rw [hself, Hart.afterCpuid_rflags]
  · rw [hself, Hart.afterCpuid_inputs]
  · rw [hself, Hart.afterCpuid_overrides]
  · rw [hself, Hart.afterCpuid_unlistedKey, Snapshot.keyAfter_of_listed hl ho, State.snapshot_key]

/-- `CPUID` overwrites the four general registers whole, so nothing of them is left in the thread (D3). -/
theorem Hart.afterCpuid_of_gprs {h h' : Hart} (hpc : h.pc = h'.pc) (hf : h.rflags = h'.rflags)
    (hi : h.inputs = h'.inputs) (ho : h.overrides = h'.overrides) (v : Snapshot) : h.afterCpuid v = h'.afterCpuid v := by
  simp only [Hart.afterCpuid, Hart.writeGpr, hpc, hf, hi, ho]

/-- Of the general registers the snapshot holds EAX and ECX alone (R100). -/
theorem State.snapshot_setSelf_congr (s : State) {h h' : Hart} (hfn : h.functionIn = h'.functionIn)
    (hsub : h.subleafIn = h'.subleafIn) (hi : h.inputs = h'.inputs) (ho : h.overrides = h'.overrides)
    (hk : h.unlistedKey = h'.unlistedKey) : (s.setSelf h).snapshot = (s.setSelf h').snapshot := by
  simp [State.snapshot, hfn, hsub, hi, ho, hk]

/-- `CPUID` in a thread put in the place of the executing one. -/
theorem exec_cpuid_setSelf {s : State} (hr : s.Ready) (h : Hart) :
    exec .cpuid (s.setSelf h) = .next (s.setSelf (h.afterCpuid (s.setSelf h).snapshot)) := by
  have hr' : (s.setSelf h).Ready := hr
  rw [exec_cpuid_of_ready hr', State.self_setSelf, State.setSelf_setSelf]

/-- Settles O10: the two threads take one snapshot, and nothing else of their registers is left. -/
theorem cpuidReadsOnlyLowHalves : Obligations.CpuidReadsOnlyLowHalves := by
  intro s h h' hr hfn hsub hpc hf hi ho hk
  refine ⟨_, exec_cpuid_setSelf hr h, ?_⟩
  rw [exec_cpuid_setSelf hr h', State.snapshot_setSelf_congr s hfn hsub hi ho hk, Hart.afterCpuid_of_gprs hpc hf hi ho]

/-! Registers whose feature is reported as absent -/

/-- A row hidden by a feature reported as absent completes and writes `Unlisted` (R104, R110). -/
theorem rowWrites_of_not_listed {s : State} (h : s.Ready) {i : Instr} {fn : Word} {sub : Option Word} {out : Gpr}
    (hs : i.selector = some ⟨fn, sub, out⟩) (hl : s.snapshot.lists i = false) :
    RowWrites s i fn sub out (s.snapshot.unlisted out) := by
  have hval : rowValue i s.snapshot = s.snapshot.unlisted out := by
    simp [rowValue_eq_ite hs, hl]
  exact hval ▸ rowWrites_of_ready h hs

theorem value_fn80000001_ECX_of_override {v : Snapshot} {w : Word} (hov : v.ov.featureExtIdEcx = some w) :
    value_fn80000001_ECX v = w := by
  rw [value_fn80000001_ECX, hov, overridden_some]

/-- Settles O26: the feature bits are read from the replacement, and the rows they list are not listed. -/
theorem clearedFeatureMakesRowsUnlisted : Obligations.ClearedFeatureMakesRowsUnlisted := by
  intro s w hr hov
  have hecx : value_fn80000001_ECX s.snapshot = w := value_fn80000001_ECX_of_override hov
  refine ⟨fun hbit => ?_, fun hbit => ?_⟩
  · have hsvm : s.snapshot.svmReported = false := by rw [Snapshot.svmReported, hecx, hbit]
    and_intros <;> exact rowWrites_of_not_listed hr rfl hsvm
  · have htop : s.snapshot.topologyReported = false := by rw [Snapshot.topologyReported, hecx, hbit]
    and_intros <;> exact rowWrites_of_not_listed hr rfl htop

/-! The register file under execution -/

/-- An instruction leaves the inputs and the overrides of every thread as they were. -/
theorem exec_keeps_inputs_overrides {s t : State} {j : Instr} (h : exec j s = .next t) (u : ThreadId) :
    (t.hart u).inputs = (s.hart u).inputs ∧ (t.hart u).overrides = (s.hart u).overrides := by
  obtain ⟨_, hart, rfl, hi, ho, _⟩ := exec_next h
  by_cases hu : u = s.current
  · subst hu
    exact ⟨(congrArg Hart.inputs (s.self_setSelf hart)).trans hi, (congrArg Hart.overrides (s.self_setSelf hart)).trans ho⟩
  · simp [hu]

/-- After an instruction, the snapshot of any thread is the one before, but for the operands and the key of the free value. -/
theorem exec_next_snapshot {s t : State} {j : Instr} (h : exec j s = .next t) (u : ThreadId) :
    (t.atTurn u).snapshot = { (s.atTurn u).snapshot with
      key := (t.hart u).unlistedKey, fn := (t.hart u).functionIn, sub := (t.hart u).subleafIn } := by
  obtain ⟨hi, ho⟩ := exec_keeps_inputs_overrides h u
  obtain ⟨_, _, rfl, _⟩ := exec_next h
  simp [State.snapshot, hi, ho]

/-- The access types as printed: none of them a write access (R106). -/
theorem printedAccess_cases {i : Instr} (h : i ≠ .cpuid) :
    printedAccess i = .readOnly ∨ printedAccess i = .readOnlyVolatile ∨
      (printedAccess i = .nonePrinted ∧
        i ∈ [Instr.fn00000006_EBX, .fn00000006_EDX, .fn00000007_ECX_x00, .fn00000007_EDX_x00, .fn8000001D_EAX_x00]) := by
  cases i with
  | cpuid => exact absurd rfl h
  | fn00000006_EBX | fn00000006_EDX | fn00000007_ECX_x00 | fn00000007_EDX_x00 | fn8000001D_EAX_x00 =>
    exact .inr (.inr ⟨rfl, by decide⟩)
  | fn0000000D_EBX_x00 | fn0000000D_EBX_x01 | fn8000000A_EBX => exact .inr (.inl rfl)
  | _ => exact .inl rfl

/-- Settles O44: a value follows parameters and inputs, and an instruction writes neither. -/
theorem registerFileIsReadOnly : Obligations.RegisterFileIsReadOnly := by
  refine ⟨fun s t i j u _ h hov => ?_, fun _ hi => printedAccess_cases hi⟩
  have hsnap := exec_next_snapshot h u
  exact (congrArg (rowValue i) hsnap).trans (rowValue_of_operands i (v := (s.atTurn u).snapshot) hov _ _ _)

/-! A value under a mask -/

/-- A mask lets some bit of the field through. -/
def Field.showsUnder (mask : Word) : Field → Bool
  | ⟨hi, lo, _, _, _, _⟩ => slice mask hi lo != 0#32

theorem Field.showsUnder_eq (mask : Word) (f : Field) : f.showsUnder mask = (slice mask f.hi f.lo != 0#32) := rfl

/-- The fields of which a mask lets some bit through. -/
def fieldsUnder (mask : Word) (fs : List Field) : List Field := fs.filter (Field.showsUnder mask)

/-- A field of which a mask lets no bit through does not show under it. -/
theorem shiftLeft_and_eq_zero {a mask : Word} {hi lo : Nat} (hhi : hi < 32) (ha : FitsIn a (hi + 1 - lo))
    (hmask : slice mask hi lo = 0#32) : a <<< lo &&& mask = 0#32 := by
  refine BitVec.eq_of_getLsbD_eq fun k hk => ?_
  rw [BitVec.getLsbD_and, BitVec.getLsbD_shiftLeft]
  by_cases hlo : k < lo
  · simp [hlo]
  by_cases hin : k - lo < hi + 1 - lo
  · have hbit := getLsbD_slice mask hi lo (k - lo) hhi
    rw [hmask, Nat.add_sub_of_le (Nat.not_lt.mp hlo)] at hbit
    have hclear : mask.getLsbD k = false := by simpa [hin] using hbit.symm
    simp [hclear]
  · simp [ha.getLsbD_eq_false (Nat.not_lt.mp hin)]

/-- Under a mask, a value is put together from the fields the mask lets through. -/
theorem compose_and_mask {mask : Word} {fs : List Field} (hhi : ∀ f ∈ fs, f.hi < 32) (hf : ∀ f ∈ fs, f.Fits) :
    compose fs &&& mask = compose (fieldsUnder mask fs) &&& mask := by
  induction fs with
  | nil => rfl
  | cons f fs ih =>
    obtain ⟨hhif, hhis⟩ := List.forall_mem_cons.mp hhi
    obtain ⟨hfit, hfits⟩ := List.forall_mem_cons.mp hf
    have ih := ih hhis hfits
    rw [fieldsUnder, List.filter_cons, ← fieldsUnder, Field.showsUnder_eq]
    by_cases hmask : slice mask f.hi f.lo = 0#32
    · simp [hmask, BitVec.and_or_distrib_right, shiftLeft_and_eq_zero hhif hfit hmask, ih]
    · simp [hmask, BitVec.and_or_distrib_right, ih]

theorem rowFields_hi_lt {i : Instr} (h : i ≠ .cpuid) (v : Snapshot) : ∀ f ∈ rowFields i v, f.hi < 32 := fun f hf =>
  Nat.lt_succ_of_le (hi_le_of_coversFrom (rowFields_cover i h v) f hf)

/-- With no override written, the bits of a register under a mask are those of the fields that the mask lets through. -/
theorem rowValue_and_mask {i : Instr} (h : i ≠ .cpuid) {v : Snapshot} (hov : v.ov = Overrides.none) (mask : Word) :
    rowValue i v &&& mask = compose (fieldsUnder mask (rowFields i v)) &&& mask := by
  rw [rowValue_of_noOverride i hov, compose_and_mask (rowFields_hi_lt h v) (rowFields_fit i v)]

/-! Printed resets -/

theorem rowValue_fn8000001D_ECX_x03 {v : Snapshot} (hov : v.ov = Overrides.none) :
    rowValue .fn8000001D_ECX_x03 v = v.p.l3NumSets :=
  (rowValue_of_noOverride .fn8000001D_ECX_x03 hov).trans (compose_singleton rfl)

theorem rowValue_fn8000001F_EDX (v : Snapshot) : rowValue .fn8000001F_EDX v = v.p.minimumSevAsid := compose_singleton rfl

/-- Of the checks of a legal configuration, the three on parameters whose fields are compared here (R8, D21, R305, R320). -/
theorem checks_of_wellFormed {p : Params} (hp : p.wellFormed = true) :
    p.ncOk = true ∧ p.l3NumSetsOk = true ∧ p.minimumSevAsidOk = true := by
  simp only [Params.wellFormed, Bool.and_eq_true] at hp
  obtain ⟨⟨⟨⟨⟨⟨⟨⟨⟨hnc, _⟩, _⟩, _⟩, _⟩, _⟩, hsets⟩, _⟩, hasid⟩, _⟩ := hp
  exact ⟨hnc, hsets, hasid⟩

/-- The legal values of `P.L3NumSets` keep to the digits that are printed X (R305). -/
theorem l3NumSets_and_mask {p : Params} (hp : p.wellFormed = true) : p.l3NumSets &&& 0xFFFF0000#32 = 0#32 := by
  obtain ⟨_, hok, _⟩ := checks_of_wellFormed hp
  simp only [Params.l3NumSetsOk, Bool.or_eq_true, beq_iff_eq] at hok
  obtain h | h := hok <;> rw [h] <;> rfl

/-- The legal values of `P.MinimumSEVASID` keep to the digit that is printed X (R8, R320). -/
theorem minimumSevAsid_and_mask {p : Params} (hp : p.wellFormed = true) : p.minimumSevAsid &&& 0xFFFFFFF0#32 = 0#32 := by
  obtain ⟨_, _, hok⟩ := checks_of_wellFormed hp
  have hfit : FitsIn p.minimumSevAsid (3 + 1 - 0) := Nat.lt_succ_of_le (of_decide_eq_true hok)
  simpa using shiftLeft_and_eq_zero (mask := 0xFFFFFFF0#32) (by decide) hfit rfl

/-- The fields of which a printed reset gives some digit have printed values, the same in every snapshot; three registers of
one field each, NASID and two parameters, are left out. -/
theorem fieldsUnder_printedReset {i : Instr}
    (h : i ∉ [Instr.fn8000000A_EBX, .fn8000001D_ECX_x03, .fn8000001F_EDX]) (v v' : Snapshot) :
    (printedReset i).map (fun r => fieldsUnder r.1 (rowFields i v)) =
      (printedReset i).map (fun r => fieldsUnder r.1 (rowFields i v')) := by
  cases i with
  | fn8000000A_EBX | fn8000001D_ECX_x03 | fn8000001F_EDX => simp at h
  | _ => rfl

/-- The snapshot of the state after reset meets what a printed reset supposes (R370). -/
def resetSnapshot : Snapshot := State.reset.snapshot

/-- In the state after reset every register has the digits of its printed reset. -/
theorem rowValue_resetSnapshot_and_mask (i : Instr) :
    (printedReset i).all (fun r => rowValue i resetSnapshot &&& r.1 == r.2) = true := by cases i <;> rfl

/-- Under the mask of its printed reset, a register reads what it reads after reset. -/
theorem rowValue_and_printedMask {i : Instr} {v : Snapshot} {mask w : Word} (hp : v.p.wellFormed = true)
    (hov : v.ov = Overrides.none) (hn : v.inp.nasid = 0x00008000#32) (h : printedReset i = some (mask, w)) :
    rowValue i v &&& mask = rowValue i resetSnapshot &&& mask := by
  have hp' : resetSnapshot.p.wellFormed = true := rfl
  have hov' : resetSnapshot.ov = Overrides.none := rfl
  by_cases hi : i ∈ [Instr.fn8000000A_EBX, .fn8000001D_ECX_x03, .fn8000001F_EDX]
  · simp only [List.mem_cons, List.not_mem_nil, or_false] at hi
    obtain rfl | rfl | rfl := hi <;> cases h
    · rw [rowValue_fn8000000A_EBX hov, rowValue_fn8000000A_EBX hov', hn]
      rfl
    · rw [rowValue_fn8000001D_ECX_x03 hov, rowValue_fn8000001D_ECX_x03 hov', l3NumSets_and_mask hp,
        l3NumSets_and_mask hp']
    · rw [rowValue_fn8000001F_EDX, rowValue_fn8000001F_EDX, minimumSevAsid_and_mask hp, minimumSevAsid_and_mask hp']
  · have hne : i ≠ .cpuid := by
      rintro rfl
      cases h
    have hfields := fieldsUnder_printedReset hi v resetSnapshot
    rw [h, Option.map_some, Option.map_some, Option.some.injEq] at hfields
    rw [rowValue_and_mask hne hov, rowValue_and_mask hne hov', hfields]

/-- Settles O28: under its mask a register reads what it reads after reset, and there its digits are the printed ones. -/
theorem printedResetsAgree : Obligations.PrintedResetsAgree := by
  intro i v mask w hp hov hn h
  have hreset : rowValue i resetSnapshot &&& mask = w := by simpa [h] using rowValue_resetSnapshot_and_mask i
  rw [rowValue_and_printedMask hp hov hn h, hreset]

/-! Fields of a value -/

/-- With no override written, each field of a register reads back from its value. -/
theorem slice_rowValue {i : Instr} (h : i ≠ .cpuid) {v : Snapshot} (hov : v.ov = Overrides.none) {f : Field}
    (hf : f ∈ rowFields i v) : slice (rowValue i v) f.hi f.lo = f.value := by
  rw [rowValue_of_noOverride i hov]
  exact rowFields_read_back i h v f hf

/-- A bit of a register, read as the field of one Boolean that stands there. -/
theorem getLsbD_of_slice_eq_bit {w : Word} {n : Nat} (hn : n < 32) {b : Bool} (h : slice w n n = bit b) :
    w.getLsbD n = b := by
  have hbit := getLsbD_slice w n n 0 hn
  rw [h] at hbit
  cases b <;> simpa [bit] using hbit.symm

theorem toNat_zext {n : Nat} (x : BitVec n) (h : n ≤ 32) : (zext x).toNat = x.toNat := by
  rw [zext, BitVec.toNat_setWidth, Nat.mod_eq_of_lt (Nat.lt_of_lt_of_le x.isLt (Nat.pow_le_pow_right (by decide) h))]

/-! The number of threads -/

theorem slice_logicalProcessorCount {v : Snapshot} (hov : v.ov = Overrides.none) :
    slice (rowValue .fn00000001_EBX v) 23 16 = zext (v.p.nc + 1#8) :=
  slice_rowValue (f := paramField 23 16 "LogicalProcessorCount" (zext (v.p.nc + 1#8))) (by decide) hov
    (by simp [rowFields, fields_fn00000001_EBX])

theorem slice_nc {v : Snapshot} (hov : v.ov = Overrides.none) : slice (rowValue .fn80000008_ECX v) 7 0 = zext v.p.nc :=
  slice_rowValue (f := paramField 7 0 "NC" (zext v.p.nc)) (by decide) hov (by simp [rowFields, fields_fn80000008_ECX])

theorem getLsbD_htt {v : Snapshot} (hov : v.ov = Overrides.none) :
    (rowValue .fn00000001_EDX v).getLsbD 28 = (v.p.nc != 0#8) := by
  have hmem : paramField 28 28 "HTT" (bit (v.p.nc != 0#8)) ∈ rowFields .fn00000001_EDX v := by
    simp [rowFields, fields_fn00000001_EDX]
  exact getLsbD_of_slice_eq_bit (by decide) (slice_rowValue (by decide) hov hmem)

theorem getLsbD_cmpLegacy {v : Snapshot} (hov : v.ov = Overrides.none) :
    (rowValue .fn80000001_ECX v).getLsbD 1 = decide (0#8 < v.p.nc) := by
  have hmem : paramField 1 1 "CmpLegacy" (bit (decide (0#8 < v.p.nc))) ∈ rowFields .fn80000001_ECX v := by
    simp [rowFields, fields_fn80000001_ECX]
  exact getLsbD_of_slice_eq_bit (by decide) (slice_rowValue (by decide) hov hmem)

/-- In a legal configuration `P.NC` + 1 does not wrap (R8, D21). -/
theorem toNat_nc_add_one {p : Params} (hp : p.wellFormed = true) : (p.nc + 1#8).toNat = p.nc.toNat + 1 := by
  obtain ⟨hok, _, _⟩ := checks_of_wellFormed hp
  have hnc : p.nc ≠ 0xFF#8 := by simpa [Params.ncOk] using hok
  bv_omega

/-- Settles O31: the four fields are printed over `P.NC`. -/
theorem threadCountFieldsAgree : Obligations.ThreadCountFieldsAgree := by
  intro v hp hov
  refine ⟨?_, ?_, ?_, ?_⟩
  · rw [slice_logicalProcessorCount hov, toNat_zext _ (by decide), toNat_nc_add_one hp]
  · rw [threadsInPackage, slice_nc hov, toNat_zext _ (by decide)]
  · rw [getLsbD_htt hov, getLsbD_cmpLegacy hov, Bool.eq_iff_iff, bne_iff_ne, decide_eq_true_iff]
    bv_omega
  · rw [getLsbD_htt hov, bne_iff_ne]

/-! Family, model and stepping -/

/-- The two identity registers are put together from the same fields, which no override replaces (R111, R136, R206). -/
theorem rowValue_famModStep (v : Snapshot) : ∀ i ∈ [Instr.fn00000001_EAX, Instr.fn80000001_EAX],
    rowValue i v = compose (rowFields .fn00000001_EAX v) := by
  intro i hi
  obtain rfl | rfl := by simpa using hi
  · rfl
  · rfl

/-- A hexadecimal digit zero before a zero-extended one. -/
theorem append_zext_digit (x : BitVec 4) : (0#32).setWidth 4 ++ (zext x).setWidth 4 = x.setWidth 8 := by
  have hx : (zext x).setWidth 4 = x := by simp [zext]
  rw [hx, BitVec.setWidth_eq_append (x := x) (by decide)]
  rfl

/-- Settles O32: the fields the arithmetic reads are printed digits and `P.BaseModel`. -/
theorem familyModelSteppingDecode : Obligations.FamilyModelSteppingDecode := by
  intro v i hi
  have hread := rowFields_read_back .fn00000001_EAX (by decide) v
  rw [← rowValue_famModStep v i hi] at hread
  simp only [rowFields, fields_fn00000001_EAX, List.forall_mem_cons, reservedField, plainField, paramField] at hread
  obtain ⟨_, hextFamily, hextModel, _, hbaseFamily, hbaseModel, hstepping, _⟩ := hread
  refine ⟨?_, ?_, ?_⟩
  · rw [familyOf, hbaseFamily, hextFamily]
    rfl
  · rw [modelOf, hextModel, hbaseModel]
    exact append_zext_digit _
  · rw [steppingOf, hstepping]
    rfl

/-! The geometry of the caches -/

/-- With no override written, the EBX and ECX of function 8000_001Dh for the first three caches are printed words (R297 to
R299, R302 to R304). -/
theorem rowValue_cacheGeometry {v : Snapshot} (hov : v.ov = Overrides.none) :
    (rowValue .fn8000001D_EBX_x00 v = 0x01C0003F#32 ∧ rowValue .fn8000001D_ECX_x00 v = 0x3F#32) ∧
    (rowValue .fn8000001D_EBX_x01 v = 0x00C0003F#32 ∧ rowValue .fn8000001D_ECX_x01 v = 0xFF#32) ∧
    (rowValue .fn8000001D_EBX_x02 v = 0x01C0003F#32 ∧ rowValue .fn8000001D_ECX_x02 v = 0x3FF#32) := by
  simp only [rowValue_of_noOverride _ hov]
  exact ⟨⟨rfl, rfl⟩, ⟨rfl, rfl⟩, rfl, rfl⟩

/-- The sizes and lines of functions 8000_0005h and 8000_0006h are printed words (R243, R244, R248). -/
theorem rowValue_cacheSizes (v : Snapshot) : rowValue .fn80000005_ECX v = 0x20080140#32 ∧
    rowValue .fn80000005_EDX v = 0x40040140#32 ∧ rowValue .fn80000006_ECX v = 0x02006140#32 := ⟨rfl, rfl, rfl⟩

/-- A register of function 8000_001Dh with a count of sharers in bits 25:14 (R292). -/
theorem cacheSharers_rowValue {i : Instr} (h : i ≠ .cpuid) {v : Snapshot} (hov : v.ov = Overrides.none) {n : BitVec 12}
    (hf : paramField 25 14 "NumSharingCache" (zext n) ∈ rowFields i v) : cacheSharers (rowValue i v) = n.toNat + 1 := by
  have hslice : slice (rowValue i v) 25 14 = zext n := slice_rowValue h hov hf
  rw [cacheSharers, hslice, toNat_zext n (by decide)]

/-- Settles O33: sizes and lines are computed from printed words, the sharers read back from their field. -/
theorem cacheGeometryAgrees : Obligations.CacheGeometryAgrees := by
  intro v hov
  obtain ⟨⟨hb0, hc0⟩, ⟨hb1, hc1⟩, hb2, hc2⟩ := rowValue_cacheGeometry hov
  obtain ⟨hdc, hic, hl2⟩ := rowValue_cacheSizes v
  rw [hb0, hc0, hb1, hc1, hb2, hc2, hdc, hic, hl2]
  refine ⟨⟨rfl, rfl⟩, ⟨rfl, rfl⟩, ⟨rfl, rfl⟩, ⟨rfl, rfl⟩, ⟨rfl, rfl⟩, ⟨rfl, rfl⟩,
    cacheSharers_rowValue (by decide) hov ?_, cacheSharers_rowValue (by decide) hov ?_,
    cacheSharers_rowValue (by decide) hov ?_, cacheSharers_rowValue (by decide) hov ?_⟩
  · simp [rowFields, fields_fn8000001D_EAX_x00]
  · simp [rowFields, fields_fn8000001D_EAX_x01]
  · simp [rowFields, fields_fn8000001D_EAX_x02]
  · simp [rowFields, fields_fn8000001D_EAX_x03]

/-! Registers that return the same -/

/-- Four fields of a byte each are the four bytes side by side, the lowest-numbered in bits 7:0 (R61). -/
theorem compose_byteFields (n0 n1 n2 n3 : String) (b0 b1 b2 b3 : Byte) :
    compose (byteFields n0 n1 n2 n3 b0 b1 b2 b3) = b3 ++ b2 ++ b1 ++ b0 := by
  refine BitVec.eq_of_getLsbD_eq fun k hk => ?_
  simp only [byteFields, inputField, zext, compose_cons, compose_nil, BitVec.getLsbD_or, BitVec.getLsbD_shiftLeft,
    BitVec.getLsbD_setWidth]
  grind

/-- Settles O29: a register of the name string is four fields of a byte each. -/
theorem aliasedRegistersReturnTheSame : Obligations.AliasedRegistersReturnTheSame := by
  intro v
  obtain ⟨⟨hb, hc, hd⟩, hb', hc', hd'⟩ := rowValue_vendor v
  refine ⟨hb'.trans hb.symm, hc'.trans hc.symm, hd'.trans hd.symm, rfl, ?_⟩
  and_intros <;> exact compose_byteFields _ _ _ _ _ _ _ _

end Sys2Proof.Machine

/-! PROOFS. The registers of functions 0 and 1: a value put together from fields as a formula, one word for what is printed and
one term for each field that follows a parameter or an input, and the row alone that writes it. -/

namespace Sys2Proof.Machine

open Sys2Proof

/-! The value of a register as a formula -/

/-- The value of the field is in the source: reserved (D6), "Fixed," or a constant without that word (D12). -/
def Field.isPrinted (f : Field) : Bool :=
  match f.source with
  | .reserved | .fixed | .plain => true
  | .parameter | .input => false

/-- The formula of a register whose printed fields make `word`: to it come the other fields, each shifted to its position, in
the order of the source. -/
def fieldFormula (word : Word) (fs : List Field) : Word :=
  (fs.filter (fun f => !f.isPrinted)).foldl (fun w f => w ||| (f.value <<< f.lo)) word

theorem foldl_or_field (fs : List Field) (w : Word) :
    fs.foldl (fun w f => w ||| (f.value <<< f.lo)) w = w ||| compose fs := by
  induction fs generalizing w with
  | nil => simp
  | cons f fs ih => rw [List.foldl_cons, ih, compose_cons, BitVec.or_assoc]

/-- The fields of a register can be taken in two parts: the OR of R105 does not depend on their order. -/
theorem compose_filter_or_compose_filter_not (p : Field → Bool) (fs : List Field) :
    compose (fs.filter p) ||| compose (fs.filter (fun f => !p f)) = compose fs := by
  induction fs with
  | nil => simp
  | cons f fs ih =>
    rw [compose_cons, ← ih]
    by_cases hp : p f = true
    · rw [List.filter_cons_of_pos hp, List.filter_cons_of_neg (by simp [hp]), compose_cons, BitVec.or_assoc]
    · rw [List.filter_cons_of_neg hp, List.filter_cons_of_pos (by simp [hp]), compose_cons]
      ac_rfl

theorem compose_eq_fieldFormula {fs : List Field} {word : Word} (h : compose (fs.filter Field.isPrinted) = word) :
    compose fs = fieldFormula word fs := by
  rw [fieldFormula, foldl_or_field, ← h, compose_filter_or_compose_filter_not]

/-- The printed fields of a row are the same in every snapshot. -/
theorem printedFields_eq (i : Instr) (v v' : Snapshot) :
    (rowFields i v).filter Field.isPrinted = (rowFields i v').filter Field.isPrinted := by cases i <;> rfl

/-- The word that the printed fields of a row make, read in the state after reset. -/
def printedWord (i : Instr) : Word := compose ((rowFields i resetSnapshot).filter Field.isPrinted)

/-- With no override written, the value of a row is its printed word with the fields that follow a parameter or an input. -/
theorem rowValue_eq_fieldFormula {i : Instr} {v : Snapshot} (hov : v.ov = Overrides.none) {word : Word}
    (h : printedWord i = word) : rowValue i v = fieldFormula word (rowFields i v) := by
  have hword : compose ((rowFields i v).filter Field.isPrinted) = word := by
    rw [printedFields_eq i v resetSnapshot, ← printedWord, h]
  exact (rowValue_of_noOverride i hov).trans (compose_eq_fieldFormula hword)

/-! The registers of functions 0 and 1 -/

/-- The largest standard function is one printed word (R131). -/
theorem rowValue_fn00000000_EAX (v : Snapshot) : rowValue .fn00000000_EAX v = 0x0000000D#32 := compose_singleton rfl

/-- Family and stepping are printed, and the base model is a parameter (R136). -/
theorem rowValue_fn00000001_EAX {v : Snapshot} (hov : v.ov = Overrides.none) :
    rowValue .fn00000001_EAX v = (0x00800F02#32 ||| (zext v.p.baseModel <<< 4)) :=
  rowValue_eq_fieldFormula (i := .fn00000001_EAX) (word := 0x00800F02#32) hov rfl

/-- The APIC id is the executing thread's parameter, and the processor count one over `P.NC` (R137). -/
theorem rowValue_fn00000001_EBX {v : Snapshot} (hov : v.ov = Overrides.none) :
    rowValue .fn00000001_EBX v =
      (0x00000800#32 ||| (zext v.tp.localApicId <<< 24) ||| (zext (v.p.nc + 1#8) <<< 16)) :=
  rowValue_eq_fieldFormula (i := .fn00000001_EBX) (word := 0x00000800#32) hov rfl

/-- Of the features in ECX, two follow inputs and two are parameters (R138). -/
theorem rowValue_fn00000001_ECX {v : Snapshot} (hov : v.ov = Overrides.none) :
    rowValue .fn00000001_ECX v =
      (0x74D83201#32 ||| (bit v.inp.osxsave <<< 27) ||| (bit v.p.aes <<< 25) ||| (bit (!v.inp.monMwaitDis) <<< 3) |||
        (bit v.p.pclmulqdq <<< 1)) :=
  rowValue_eq_fieldFormula (i := .fn00000001_ECX) (word := 0x74D83201#32) hov rfl

/-- Of the features in EDX, HTT is printed over `P.NC` and APIC follows an input (R139). -/
theorem rowValue_fn00000001_EDX {v : Snapshot} (hov : v.ov = Overrides.none) :
    rowValue .fn00000001_EDX v =
      (0x078BF9FF#32 ||| (bit (v.p.nc != 0#8) <<< 28) ||| (bit v.inp.apicEn <<< 9)) :=
  rowValue_eq_fieldFormula (i := .fn00000001_EDX) (word := 0x078BF9FF#32) hov rfl

/-- A row of a known value, whose selector accepts EAX_in and ECX_in, completes and writes it. -/
theorem rowWrites_of_rowValue {s : State} (h : s.Ready) {i : Instr} {fn w : Word} {sub : Option Word} {out : Gpr}
    (hs : i.selector = some ⟨fn, sub, out⟩) (hw : rowValue i s.snapshot = w) : RowWrites s i fn sub out w :=
  hw ▸ rowWrites_of_ready h hs

/-- Settles O13: each row writes its value, which is a printed word or the formula of its fields. -/
theorem vendorAndIdentityRows : Obligations.VendorAndIdentityRows := by
  intro s hr hov
  obtain ⟨⟨hvendorB, hvendorC, hvendorD⟩, _⟩ := rowValue_vendor s.snapshot
  exact ⟨rowWrites_of_rowValue hr rfl (rowValue_fn00000000_EAX s.snapshot), rowWrites_of_rowValue hr rfl hvendorB,
    rowWrites_of_rowValue hr rfl hvendorC, rowWrites_of_rowValue hr rfl hvendorD,
    rowWrites_of_rowValue hr rfl (rowValue_fn00000001_EAX hov), rowWrites_of_rowValue hr rfl (rowValue_fn00000001_EBX hov),
    rowWrites_of_rowValue hr rfl (rowValue_fn00000001_ECX hov), rowWrites_of_rowValue hr rfl (rowValue_fn00000001_EDX hov)⟩

end Sys2Proof.Machine

/-! PROOFS. The registers of functions 5, 6, 7, Bh and Dh: all but three of them are printed whole, so that their value follows
neither a parameter nor an input. -/

namespace Sys2Proof.Machine

open Sys2Proof

/-! A register that is printed whole -/

/-- A row all of whose fields are printed reads the word they make, in every snapshot that lists the row (R110) and does not
replace it (R109). -/
theorem rowValue_of_printed {i : Instr} {sel : Selector} (hs : i.selector = some sel) {v : Snapshot}
    (hl : v.lists i = true) (hov : replacement v.ov i = none) (hf : (rowFields i v).all Field.isPrinted = true) :
    rowValue i v = printedWord i := by
  have hfields : (rowFields i resetSnapshot).filter Field.isPrinted = rowFields i v := by
    rw [printedFields_eq i resetSnapshot v, List.filter_eq_self.mpr (List.all_eq_true.mp hf)]
  rw [rowValue_eq_ite hs, if_pos hl, hov, overridden_none, printedWord, hfields]

/-- A row all of whose fields are printed completes and writes the word they make. For one row the conditions are read off its
selector and its fields; of the rows below, only `fn00000006_ECX` needs the state to see that it is not replaced. -/
theorem rowWrites_of_printed {s : State} (h : s.Ready) {i : Instr} {fn w : Word} {sub : Option Word} {out : Gpr}
    (hov : replacement s.snapshot.ov i = none := by rfl) (hs : i.selector = some ⟨fn, sub, out⟩ := by rfl)
    (hl : s.snapshot.lists i = true := by rfl) (hf : (rowFields i s.snapshot).all Field.isPrinted = true := by rfl)
    (hw : printedWord i = w := by rfl) : RowWrites s i fn sub out w :=
  rowWrites_of_rowValue h hs ((rowValue_of_printed hs hl hov hf).trans hw)

/-- Settles O14: the eight registers are printed whole, and with no override written none of them is replaced. -/
theorem monitorAndPowerRows : Obligations.MonitorAndPowerRows := by
  intro s hr hov
  have hecx : replacement s.snapshot.ov .fn00000006_ECX = none := congrArg Overrides.thermalPwrMgmtEcx hov
  exact ⟨rowWrites_of_printed hr, rowWrites_of_printed hr, rowWrites_of_printed hr, rowWrites_of_printed hr,
    rowWrites_of_printed hr, rowWrites_of_printed hr, rowWrites_of_printed hr hecx, rowWrites_of_printed hr⟩

/-- Settles O15: the eight registers are printed whole, and no override MSR replaces any of them. -/
theorem structuredAndTopologyRows : Obligations.StructuredAndTopologyRows := fun _ hr =>
  ⟨rowWrites_of_printed hr, rowWrites_of_printed hr, rowWrites_of_printed hr, rowWrites_of_printed hr,
    rowWrites_of_printed hr, rowWrites_of_printed hr, rowWrites_of_printed hr, rowWrites_of_printed hr⟩

/-! The registers that follow the extended state -/

/-- The largest size of the save area is a parameter of 32 bits (R163). -/
theorem rowValue_fn0000000D_ECX_x00 (v : Snapshot) : rowValue .fn0000000D_ECX_x00 v = v.p.xFeatureSupportedSizeMax :=
  compose_singleton rfl

/-- Settles O16: EBX of subleaves 0 and 1 follows XCR0[AVX], ECX of subleaf 0 is a parameter, and the others are printed
whole. -/
theorem xstateRows : Obligations.XstateRows := by
  intro s hr
  have hebx0 := rowValue_fn0000000D_EBX_x00 s.snapshot
  have hecx0 := rowValue_fn0000000D_ECX_x00 s.snapshot
  have hebx1 := rowValue_fn0000000D_EBX_x01 s.snapshot
  exact ⟨rowWrites_of_printed hr, rowWrites_of_rowValue hr rfl hebx0, rowWrites_of_rowValue hr rfl hecx0,
    rowWrites_of_printed hr,
    rowWrites_of_printed hr, rowWrites_of_rowValue hr rfl hebx1, rowWrites_of_printed hr, rowWrites_of_printed hr,
    rowWrites_of_printed hr, rowWrites_of_printed hr, rowWrites_of_printed hr, rowWrites_of_printed hr⟩

end Sys2Proof.Machine

/-! PROOFS. The registers of functions 8000_0000h to 8000_0004h: the identity and feature registers by the formula of their
fields, the registers of the name string by the four bytes they hold. -/

namespace Sys2Proof.Machine

open Sys2Proof

/-! The registers of functions 8000_0000h and 8000_0001h -/

/-- The largest extended function is one printed word (R201). -/
theorem rowValue_fn80000000_EAX (v : Snapshot) : rowValue .fn80000000_EAX v = 0x8000001F#32 := compose_singleton rfl

/-- Family and stepping are printed, and the base model is a parameter (R206). -/
theorem rowValue_fn80000001_EAX {v : Snapshot} (hov : v.ov = Overrides.none) :
    rowValue .fn80000001_EAX v = (0x00800F02#32 ||| (zext v.p.baseModel <<< 4)) :=
  rowValue_eq_fieldFormula (i := .fn80000001_EAX) (word := 0x00800F02#32) hov rfl

/-- Nothing but the package type, a parameter, stands in EBX (R207). -/
theorem rowValue_fn80000001_EBX {v : Snapshot} (hov : v.ov = Overrides.none) :
    rowValue .fn80000001_EBX v = zext v.p.pkgType <<< 28 :=
  calc rowValue .fn80000001_EBX v
      = 0#32 ||| (zext v.p.pkgType <<< 28) := rowValue_eq_fieldFormula (i := .fn80000001_EBX) (word := 0#32) hov rfl
    _ = zext v.p.pkgType <<< 28 := BitVec.zero_or

/-- Of the features in ECX, one follows an input and one is printed over `P.NC` (R208). -/
theorem rowValue_fn80000001_ECX {v : Snapshot} (hov : v.ov = Overrides.none) :
    rowValue .fn80000001_ECX v =
      (0x14C233FD#32 ||| (bit (!v.inp.monMwaitDis) <<< 29) ||| (bit (decide (0#8 < v.p.nc)) <<< 1)) :=
  rowValue_eq_fieldFormula (i := .fn80000001_ECX) (word := 0x14C233FD#32) hov rfl

/-- Of the features in EDX, APIC follows an input (R209). -/
theorem rowValue_fn80000001_EDX {v : Snapshot} (hov : v.ov = Overrides.none) :
    rowValue .fn80000001_EDX v = (0x2FD3F9FF#32 ||| (bit v.inp.apicEn <<< 9)) :=
  rowValue_eq_fieldFormula (i := .fn80000001_EDX) (word := 0x2FD3F9FF#32) hov rfl

/-- Settles O17: each row writes its value, which is a printed word or the formula of its fields. -/
theorem extendedIdentityRows : Obligations.ExtendedIdentityRows := by
  intro s hr hov
  obtain ⟨_, hvendorB, hvendorC, hvendorD⟩ := rowValue_vendor s.snapshot
  exact ⟨rowWrites_of_rowValue hr rfl (rowValue_fn80000000_EAX s.snapshot), rowWrites_of_rowValue hr rfl hvendorB,
    rowWrites_of_rowValue hr rfl hvendorC, rowWrites_of_rowValue hr rfl hvendorD,
    rowWrites_of_rowValue hr rfl (rowValue_fn80000001_EAX hov), rowWrites_of_rowValue hr rfl (rowValue_fn80000001_EBX hov),
    rowWrites_of_rowValue hr rfl (rowValue_fn80000001_ECX hov), rowWrites_of_rowValue hr rfl (rowValue_fn80000001_EDX hov)⟩

/-! The registers of the name string -/

/-- A register of string bytes as the formula of its rule: each byte shifted to its position (R61, R105). -/
theorem compose_byteFields_eq_or (n0 n1 n2 n3 : String) (b0 b1 b2 b3 : Byte) :
    compose (byteFields n0 n1 n2 n3 b0 b1 b2 b3) =
      ((zext b3 <<< 24) ||| (zext b2 <<< 16) ||| (zext b1 <<< 8) ||| zext b0) := by
  simp [byteFields, inputField, BitVec.or_assoc]

/-- A row whose fields are four bytes of a string, whose selector accepts EAX_in and ECX_in, completes and writes the bytes
side by side. -/
theorem rowWrites_of_byteFields {s : State} (h : s.Ready) {i : Instr} {fn : Word} {sub : Option Word} {out : Gpr}
    {n0 n1 n2 n3 : String} {b0 b1 b2 b3 : Byte} (hs : i.selector = some ⟨fn, sub, out⟩)
    (hw : rowValue i s.snapshot = compose (byteFields n0 n1 n2 n3 b0 b1 b2 b3)) :
    RowWrites s i fn sub out ((zext b3 <<< 24) ||| (zext b2 <<< 16) ||| (zext b1 <<< 8) ||| zext b0) :=
  rowWrites_of_rowValue h hs (hw.trans (compose_byteFields_eq_or n0 n1 n2 n3 b0 b1 b2 b3))

/-- Settles O18: each of the twelve registers is four fields of a byte each, and no override MSR replaces any of them. -/
theorem nameStringRows : Obligations.NameStringRows := fun _ hr =>
  ⟨rowWrites_of_byteFields hr rfl rfl, rowWrites_of_byteFields hr rfl rfl, rowWrites_of_byteFields hr rfl rfl,
    rowWrites_of_byteFields hr rfl rfl, rowWrites_of_byteFields hr rfl rfl, rowWrites_of_byteFields hr rfl rfl,
    rowWrites_of_byteFields hr rfl rfl, rowWrites_of_byteFields hr rfl rfl, rowWrites_of_byteFields hr rfl rfl,
    rowWrites_of_byteFields hr rfl rfl, rowWrites_of_byteFields hr rfl rfl, rowWrites_of_byteFields hr rfl rfl⟩

end Sys2Proof.Machine

/-! PROOFS. The registers of functions 8000_0005h to 8000_000Ah: most are printed whole; of the others each is one printed word
and the fields that follow a parameter or an input. -/

namespace Sys2Proof.Machine

open Sys2Proof

/-! The formula of a register under any overrides -/

/-- A row that is listed (R110) and not replaced (R109) reads its printed word with the fields that follow a parameter or an
input, whatever is written to the override MSRs of other registers. -/
theorem rowValue_of_listed {i : Instr} {sel : Selector} (hs : i.selector = some sel) {v : Snapshot}
    (hl : v.lists i = true) (hov : replacement v.ov i = none) : rowValue i v = fieldFormula (printedWord i) (rowFields i v) := by
  have hword : compose ((rowFields i v).filter Field.isPrinted) = printedWord i := by
    rw [printedFields_eq i v resetSnapshot, printedWord]
  rw [rowValue_eq_ite hs, if_pos hl, hov, overridden_none, compose_eq_fieldFormula hword]

/-! The registers of functions 8000_0005h and 8000_0006h -/

/-- The L2 data TLB's associativity for large pages is a parameter (R246). -/
theorem rowValue_fn80000006_EAX (v : Snapshot) :
    rowValue .fn80000006_EAX v = (0x06006400#32 ||| (zext v.p.l2DTlb2and4MAssoc <<< 28)) :=
  rowValue_of_listed (i := .fn80000006_EAX) rfl rfl rfl

/-- The L2 data TLB's associativity for 4K pages is a parameter (R247). -/
theorem rowValue_fn80000006_EBX (v : Snapshot) :
    rowValue .fn80000006_EBX v = (0x06006400#32 ||| (zext v.p.l2DTlb4KAssoc <<< 28)) :=
  rowValue_of_listed (i := .fn80000006_EBX) rfl rfl rfl

/-- Size and associativity of the L3 cache are parameters (R249). -/
theorem rowValue_fn80000006_EDX (v : Snapshot) :
    rowValue .fn80000006_EDX v = (0x00000140#32 ||| (zext v.p.l3Size <<< 18) ||| (zext v.p.l3Assoc <<< 12)) :=
  rowValue_of_listed (i := .fn80000006_EDX) rfl rfl rfl

/-- Settles O19: three registers follow parameters and the others are printed whole; no override MSR replaces or hides any of
them. -/
theorem cacheAndTlbRows : Obligations.CacheAndTlbRows := by
  intro s hr
  have heax := rowValue_fn80000006_EAX s.snapshot
  have hebx := rowValue_fn80000006_EBX s.snapshot
  have hedx := rowValue_fn80000006_EDX s.snapshot
  exact ⟨rowWrites_of_printed hr, rowWrites_of_printed hr, rowWrites_of_printed hr, rowWrites_of_printed hr,
    rowWrites_of_rowValue hr rfl heax, rowWrites_of_rowValue hr rfl hebx, rowWrites_of_printed hr,
    rowWrites_of_rowValue hr rfl hedx⟩

/-! The registers of functions 8000_0007h, 8000_0008h and 8000_000Ah -/

/-- Of the RAS capabilities, SUCCOR is a parameter (R252). -/
theorem rowValue_fn80000007_EBX (v : Snapshot) :
    rowValue .fn80000007_EBX v = (0x00000009#32 ||| (bit v.p.succor <<< 1)) :=
  rowValue_of_listed (i := .fn80000007_EBX) rfl rfl rfl

/-- Nothing but two parameters stands in the size identifiers (R258). -/
theorem rowValue_fn80000008_ECX (v : Snapshot) :
    rowValue .fn80000008_ECX v = ((zext v.p.apicIdSize <<< 12) ||| zext v.p.nc) :=
  calc rowValue .fn80000008_ECX v
      = (0#32 ||| (zext v.p.apicIdSize <<< 12) ||| (zext v.p.nc <<< 0)) :=
        rowValue_of_listed (i := .fn80000008_ECX) rfl rfl rfl
    _ = ((zext v.p.apicIdSize <<< 12) ||| zext v.p.nc) := by rw [BitVec.zero_or, BitVec.shiftLeft_zero]

/-- Settles O20: SUCCOR, the sizes and NASID follow parameters and an input, and the others are printed whole. With no override
written the SVM feature is reported, so that the registers of 8000_000Ah are listed. -/
theorem powerSizeSvmRows : Obligations.PowerSizeSvmRows := by
  intro s hr hov
  have hebx7 := rowValue_fn80000007_EBX s.snapshot
  have hecx8 := rowValue_fn80000008_ECX s.snapshot
  have hebxA := rowValue_fn8000000A_EBX (v := s.snapshot) hov
  have hsvm : s.snapshot.svmReported = true := svmReported_of_noOverride hov
  exact ⟨rowWrites_of_printed hr, rowWrites_of_rowValue hr rfl hebx7, rowWrites_of_printed hr, rowWrites_of_printed hr,
    rowWrites_of_printed hr, rowWrites_of_printed hr, rowWrites_of_rowValue hr rfl hecx8,
    rowWrites_of_printed hr (hl := hsvm), rowWrites_of_rowValue hr rfl hebxA, rowWrites_of_printed hr (hl := hsvm)⟩

end Sys2Proof.Machine

/-! PROOFS. The registers of functions 8000_0019h to 8000_001Bh, 8000_001Dh and 8000_001Fh: the TLB, IBS and encryption
registers are always listed, the cache properties only while TopologyExtensions is reported (R110). -/

namespace Sys2Proof.Machine

open Sys2Proof

/-- Settles O21: the minimum SEV ASID is a parameter, and the other seven registers are printed whole; no override MSR
replaces or hides any of them. -/
theorem tlbIbsSevRows : Obligations.TlbIbsSevRows := fun s hr =>
  ⟨rowWrites_of_printed hr, rowWrites_of_printed hr, rowWrites_of_printed hr, rowWrites_of_printed hr,
    rowWrites_of_printed hr, rowWrites_of_printed hr, rowWrites_of_printed hr,
    rowWrites_of_rowValue hr rfl (rowValue_fn8000001F_EDX s.snapshot)⟩

/-! The cache properties -/

/-- With no override written, a row completes and writes its printed word with the fields that follow a parameter or an
input. -/
theorem rowWrites_of_fieldFormula {s : State} (h : s.Ready) (hov : s.NoOverride) {i : Instr} {fn w : Word}
    {sub : Option Word} {out : Gpr} (hs : i.selector = some ⟨fn, sub, out⟩ := by rfl)
    (hw : fieldFormula (printedWord i) (rowFields i s.snapshot) = w := by rfl) : RowWrites s i fn sub out w :=
  rowWrites_of_rowValue h hs ((rowValue_eq_fieldFormula (v := s.snapshot) hov rfl).trans hw)

/-- Settles O22: in EAX of subleaves 0 to 3 the field NumSharingCache is a parameter beside a printed word; the null cache of
subleaf 4 and every EBX are printed whole. With no override written TopologyExtensions is reported, so that the
registers are listed. -/
theorem cacheTypeAndWaysRows : Obligations.CacheTypeAndWaysRows := by
  intro s hr hov
  have htop : s.snapshot.topologyReported = true := topologyReported_of_noOverride hov
  exact ⟨rowWrites_of_fieldFormula hr hov, rowWrites_of_fieldFormula hr hov, rowWrites_of_fieldFormula hr hov,
    rowWrites_of_fieldFormula hr hov, rowWrites_of_printed hr (hl := htop),
    rowWrites_of_printed hr (hl := htop), rowWrites_of_printed hr (hl := htop), rowWrites_of_printed hr (hl := htop),
    rowWrites_of_printed hr (hl := htop), rowWrites_of_printed hr (hl := htop)⟩

/-- Settles O23: the number of sets of the L3 cache is a parameter of 32 bits, and the other nine registers are printed whole;
with no override written TopologyExtensions is reported, so that they are listed. -/
theorem cacheSetsAndInclusionRows : Obligations.CacheSetsAndInclusionRows := by
  intro s hr hov
  have htop : s.snapshot.topologyReported = true := topologyReported_of_noOverride hov
  have hecx3 := rowValue_fn8000001D_ECX_x03 (v := s.snapshot) hov
  exact ⟨rowWrites_of_printed hr (hl := htop), rowWrites_of_printed hr (hl := htop), rowWrites_of_printed hr (hl := htop),
    rowWrites_of_rowValue hr rfl hecx3, rowWrites_of_printed hr (hl := htop),
    rowWrites_of_printed hr (hl := htop), rowWrites_of_printed hr (hl := htop), rowWrites_of_printed hr (hl := htop),
    rowWrites_of_printed hr (hl := htop), rowWrites_of_printed hr (hl := htop)⟩

end Sys2Proof.Machine

/-! PROOFS. The registers of function 8000_001Eh: an APIC id that follows two inputs, and two pairs of parameters of which the
lower one is the executing thread's own. -/

namespace Sys2Proof.Machine

open Sys2Proof

/-- Reserved bits add nothing to the OR of R105 (D6): of two fields below them the lower one is read unshifted. -/
theorem compose_reservedField_pair {hi lo : Nat} {f g : Field} (h : g.lo = 0) :
    compose [reservedField hi lo, f, g] = (f.value <<< f.lo) ||| g.value := by simp [reservedField, h]

/-- The extended APIC ID is the executing thread's APIC id, and zero while the APIC is disabled (R313). -/
theorem rowValue_fn8000001E_EAX {v : Snapshot} (hov : v.ov = Overrides.none) :
    rowValue .fn8000001E_EAX v = if v.inp.apicEn then zext v.inp.apicId else 0#32 :=
  (rowValue_of_noOverride .fn8000001E_EAX hov).trans (compose_singleton rfl)

/-- The threads of a core stand above the executing thread's core id (R314). -/
theorem rowValue_fn8000001E_EBX {v : Snapshot} (hov : v.ov = Overrides.none) :
    rowValue .fn8000001E_EBX v = ((zext v.p.threadsPerCore <<< 8) ||| zext v.tp.coreId) :=
  (rowValue_of_noOverride .fn8000001E_EBX hov).trans (compose_reservedField_pair rfl)

/-- The nodes of the processor stand above the executing thread's node id (R315). -/
theorem rowValue_fn8000001E_ECX {v : Snapshot} (hov : v.ov = Overrides.none) :
    rowValue .fn8000001E_ECX v = ((zext v.p.nodesPerProcessor <<< 8) ||| zext v.tp.nodeId) :=
  (rowValue_of_noOverride .fn8000001E_ECX hov).trans (compose_reservedField_pair rfl)

/-- Settles O24: with no override written TopologyExtensions is reported, so that each of the three rows is listed and writes
the OR of its fields. -/
theorem identifierRows : Obligations.IdentifierRows := by
  intro s hr hov
  have heax := rowValue_fn8000001E_EAX (v := s.snapshot) hov
  have hebx := rowValue_fn8000001E_EBX (v := s.snapshot) hov
  have hecx := rowValue_fn8000001E_ECX (v := s.snapshot) hov
  exact ⟨rowWrites_of_rowValue hr rfl heax, rowWrites_of_rowValue hr rfl hebx, rowWrites_of_rowValue hr rfl hecx⟩

end Sys2Proof.Machine

/-! PROOFS. Inputs and turns: until its turn a thread keeps everything but its inputs, and its turn reads them as they then
stand (R376, D16). -/

namespace Sys2Proof.Machine

open Sys2Proof

/-! What a thread sees of another state -/

/-- All that a turn of thread `t` reads is in `s'` as in `s`, but that the thread's inputs are `inp`. -/
structure SameButInputs (t : ThreadId) (inp : Inputs) (s s' : State) : Prop where
  params : s'.params = s.params
  mem : s'.mem = s.mem
  hart : s'.hart t = { s.hart t with inputs := inp }

theorem SameButInputs.refl (t : ThreadId) (s : State) : SameButInputs t (s.hart t).inputs s s := ⟨rfl, rfl, rfl⟩

theorem SameButInputs.trans {t : ThreadId} {inp inp' : Inputs} {s r u : State} (h : SameButInputs t inp s r)
    (h' : SameButInputs t inp' r u) : SameButInputs t inp' s u :=
  ⟨h'.params.trans h.params, h'.mem.trans h.mem, by rw [h'.hart, h.hart]⟩

/-- No input is fetched: the bytes at the thread's pc are the same (R60). -/
theorem SameButInputs.fetchBytes {t : ThreadId} {inp : Inputs} {s s' : State} (h : SameButInputs t inp s s') :
    (s'.atTurn t).fetchBytes = (s.atTurn t).fetchBytes := by
  simp only [State.fetchBytes, State.atTurn_params, State.atTurn_mem, State.atTurn_self, h.params, h.mem, h.hart]

/-- The snapshot of the thread's turn is the same but for the inputs (R64). -/
theorem SameButInputs.snapshot {t : ThreadId} {inp : Inputs} {s s' : State} (h : SameButInputs t inp s s') :
    (s'.atTurn t).snapshot = { (s.atTurn t).snapshot with inp := inp } := by
  simp only [State.snapshot, State.atTurn_params, State.atTurn_current, State.atTurn_self, h.params, h.hart]
  rfl

/-! Moves before the thread's turn -/

theorem inputsAfter_cons (t : ThreadId) (m : Move) (ms : List Move) (inp : Inputs) :
    inputsAfter t (m :: ms) inp = inputsAfter t ms (inputsAfter t [m] inp) := by cases m <;> rfl

/-- The turn of another thread leaves this thread as it is. -/
theorem runThread_sameButInputs {s s' : State} {t : ThreadId} (hne : t ≠ s.current) (h : runThread s = .next s') :
    SameButInputs t (s.hart t).inputs s s' := by
  obtain ⟨_, _, _, rfl⟩ := runThread_next h
  exact ⟨rfl, rfl, s.hart_setSelf_ne _ hne⟩

/-- The environment's move makes its change, if it is one of this thread's inputs, and leaves the rest of the thread. -/
theorem changeInput_sameButInputs (s : State) (t u : ThreadId) (ch : InputChange) :
    SameButInputs t (inputsAfter t [.change u ch] (s.hart t).inputs) s (s.changeInput u ch) := by
  refine ⟨rfl, rfl, ?_⟩
  by_cases hu : u = t
  · subst hu
    simp
  · simp [hu, Ne.symm hu]

/-- A move that is not the thread's turn comes off the schedule, and the thread has the inputs it has after that move. -/
theorem step_move_before_turn {s s' : State} {t : ThreadId} {m : Move} {ms : List Move} (hm : m ≠ .run t)
    (ha : s.agenda = m :: ms) (h : step s = .next s') :
    s'.agenda = ms ∧ SameButInputs t (inputsAfter t [m] (s.hart t).inputs) s s' := by
  obtain ⟨hp, _⟩ := step_next h
  cases m with
  | run u =>
    have hrun : runThread (s.scheduled u ms) = .next s' := (step_of_run hp ha).symm.trans h
    have hne : t ≠ u := fun he => hm (congrArg Move.run he.symm)
    have ⟨hp', hm', hh'⟩ := runThread_sameButInputs (s := s.scheduled u ms) hne hrun
    obtain ⟨_, _, _, rfl⟩ := runThread_next hrun
    exact ⟨rfl, hp', hm', hh'⟩
  | change u ch =>
    have hs : (s.scheduled s.current ms).changeInput u ch = s' :=
      Host.Outcome.next.inj ((step_of_change hp ha).symm.trans h)
    have ⟨hp', hm', hh'⟩ := changeInput_sameButInputs (s.scheduled s.current ms) t u ch
    subst hs
    exact ⟨rfl, hp', hm', hh'⟩

/-- Any moves before the thread's turn come off the schedule, and the thread has every change of its inputs made in order. -/
theorem stepN_before_turn {t : ThreadId} {ms rest : List Move} {s u : State} (hms : .run t ∉ ms)
    (ha : s.agenda = ms ++ rest) (h : stepN ms.length s = .next u) :
    u.agenda = rest ∧ SameButInputs t (inputsAfter t ms (s.hart t).inputs) s u := by
  induction ms generalizing s with
  | nil =>
    cases h
    exact ⟨ha, .refl t _⟩
  | cons m ms ih =>
    obtain ⟨hm, hms⟩ := not_or.mp (mt List.mem_cons.mpr hms)
    obtain ⟨r, hstep, hrest⟩ := stepN_succ_next h
    obtain ⟨har, hr⟩ := step_move_before_turn (Ne.symm hm) ha hstep
    obtain ⟨hau, hu⟩ := ih hms har hrest
    rw [hr.hart] at hu
    rw [inputsAfter_cons]
    exact ⟨hau, hr.trans hu⟩

/-! The thread's turn -/

/-- The turn of a thread with `CPUID` at its pc, scheduled or with nothing scheduled, reads the leaf of its snapshot (R100). -/
theorem step_turn_reads_leaf {s : State} {t : ThreadId} {ms : List Move} (hr : (s.atTurn t).Ready)
    (hb : (s.atTurn t).fetchBytes = [0x0F#8, 0xA2#8])
    (hturn : s.agenda = .run t :: ms ∨ (s.agenda = [] ∧ ms = [] ∧ s.current = t)) :
    ∃ w, step s = .next w ∧ ∀ out, (w.hart t).gpr out = (s.atTurn t).snapshot.leafOutput out := by
  have hp : s.params.wellFormed = true := hr.1
  have hrun : runThread (s.scheduled t ms) = exec .cpuid (s.scheduled t ms) := runThread_of_fetches_cpuid hb
  refine ⟨_, (step_of_turn hp hturn).trans (hrun.trans (exec_cpuid_eq_afterCpuid hr)), fun out => ?_⟩
  exact State.afterCpuid_gpr (s.scheduled t ms) out

/-- After any moves that step on, the thread's turn reads the leaf under its inputs with every change of them made. -/
theorem turn_reads_inputsAfter {s u : State} {t : ThreadId} {ms rest : List Move} (hr : (s.atTurn t).Ready)
    (hb : (s.atTurn t).fetchBytes = [0x0F#8, 0xA2#8]) (hms : .run t ∉ ms) (h : stepN ms.length s = .next u)
    (hturn : s.agenda = ms ++ .run t :: rest ∨ (s.agenda = ms ∧ u.current = t)) :
    ∃ w, step u = .next w ∧ ∀ out, (w.hart t).gpr out =
      ({ (s.atTurn t).snapshot with inp := inputsAfter t ms (s.hart t).inputs } : Snapshot).leafOutput out := by
  obtain ⟨hu, ms', hturn'⟩ : SameButInputs t (inputsAfter t ms (s.hart t).inputs) s u ∧
      ∃ ms', u.agenda = .run t :: ms' ∨ (u.agenda = [] ∧ ms' = [] ∧ u.current = t) := by
    obtain ha | ⟨ha, hc⟩ := hturn
    · obtain ⟨hau, hu⟩ := stepN_before_turn hms ha h
      exact ⟨hu, rest, .inl hau⟩
    · obtain ⟨hau, hu⟩ := stepN_before_turn hms (ha.trans ms.append_nil.symm) h
      exact ⟨hu, [], .inr ⟨hau, rfl, hc⟩⟩
  have hru : (u.atTurn t).Ready := by
    simpa only [State.Ready, State.atTurn_params, State.atTurn_current, hu.params] using hr
  rw [← hu.snapshot]
  exact step_turn_reads_leaf hru (hu.fetchBytes.trans hb) hturn'

/-- Settles O41: part (1) is the case of part (2) in which the one move before the turn is a change, which steps on. -/
theorem inputChangeVisibleToNextCpuid : Obligations.InputChangeVisibleToNextCpuid := by
  intro s t hp ht hb
  have hr : (s.atTurn t).Ready := ⟨hp, ht⟩
  refine ⟨fun ch ms hturn => ?_, fun ms rest u hms h hturn => turn_reads_inputsAfter hr hb hms h hturn⟩
  obtain ⟨rest, ha⟩ : ∃ rest, s.agenda = .change t ch :: rest := hturn.elim (⟨_, ·⟩) (⟨_, ·.1⟩)
  have hstep : step s = .next (State.changeInput { s with agenda := rest } t ch) := step_of_change hp ha
  have hms : Move.run t ∉ [Move.change t ch] := by simp
  obtain ⟨w, hw, hout⟩ := turn_reads_inputsAfter hr hb hms (stepN_succ 0 hstep) hturn
  rw [inputsAfter_change_same, inputsAfter_nil] at hout
  exact ⟨_, w, hstep, hw, hout⟩

end Sys2Proof.Machine
